-- ==== Sys2Proof/Word.lean ====
section
/-! DEFINITION. The one word type of the block: a byte (00_scope.md R6). -/

namespace Sys2Proof

/-- An unsigned 8-bit value, the only datum width of the block (00_scope.md R6, 20_memory.md R54). -/
abbrev Byte := BitVec 8

end Sys2Proof
end

