-- ==== Sys2Proof/Config.lean ====
section
/-! DEFINITION. What an implementation fixes. One parameter is left open by the spec, BUF_MAX
(00_scope.md R5, 93_implementation_defined.md U5); it has no value here, so every theorem holds for
every BUF_MAX the spec admits (log 4). -/

namespace Sys2Proof.Config

/-- How far BUF_MAX exceeds its lower bound 19. No body: nothing can depend on its value (log 4). -/
opaque bufExtra : Nat

/-- BUF_MAX, the number of bytes the request port's BUF carries; at least 19 (R5). -/
def bufMax : Nat := bufExtra + 19

/-- The number of bytes the request port's VALUE carries, VALUE_PORT of R4: VLEN is four bits. -/
def valuePort : Nat := 15

end Sys2Proof.Config
end

