-- ==== Sys2Proof/Syntax.lean ====
section
/-! DEFINITION. The request port (10_state.md R33) and the instructions: one constructor for each row
of spec/opcode_table.json. -/

namespace Sys2Proof

/-- The fields of the request port (10_state.md R33). The encoding of a request IS its field values
(30_encoding.md R83), so this record is the word the decoder reads (log 3).

`buf` is the byte sequence BUF[0..BLEN), as R33 names it, and `bufRest` the bytes of the BUF lines
after it, so every line is described; BLEN is `RequestPort.blen`, the length of `buf` (log 9). BLEN, LO
and HI are natural numbers: the spec only says that they are wide enough for 0..BUF_MAX (R5). -/
structure RequestPort where
  op      : BitVec 4
  cmd     : Byte
  mode    : Byte
  vlen    : BitVec 4
  value   : Vector Byte 15
  buf     : List Byte
  bufRest : List Byte
  lo      : Nat
  hi      : Nat
  expect  : Byte
  deriving DecidableEq, Repr

/-- BLEN, the number of buffer bytes: the length of BUF[0..BLEN) (R33). -/
abbrev RequestPort.blen (p : RequestPort) : Nat := p.buf.length

/-- The instructions. The first eight constructors are the table's rows of format "request", the next
six its rows of format "cmd_frame.command", the last two its rows of format "rsp_frame.responseId".
A frame row's byte reaches the block only inside an ENCODE or a DECODE request (30_encoding.md R72,
R76, R82), so its constructor stands for that request (log 6). -/
inductive Instr where
  /-- ENCODE (R101): any command byte, MODE, and the VLEN value bytes. -/
  | encode (cmd mode : Byte) (value : List Byte)
  /-- CHECKSUM (R105): the buffer and the half-open range [lo, hi). -/
  | checksum (buf : List Byte) (lo hi : Nat)
  /-- DECODE (R110): the buffer, of any length. -/
  | decode (buf : List Byte)
  /-- CLASSIFY (R140): the expected echo command. -/
  | classify (expect : Byte)
  /-- RESERVED, OP 0x0 (R167). -/
  | reservedZero
  /-- RESERVED, OP 0x5 (R167). -/
  | reservedFive
  /-- RESERVED, OP 0x6 or 0x7; `low` is OP[0] (R167). -/
  | reservedSixSeven (low : BitVec 1)
  /-- RESERVED, OP 0x8 to 0xF; `low` is OP[2:0] (R167). -/
  | reservedHigh (low : BitVec 3)
  /-- COMMUNICATION_MODE: ENCODE with command byte 0x02 (R72). -/
  | communicationMode (mode : Byte) (value : List Byte)
  /-- QUERY: ENCODE with command byte 0x04 (R72). -/
  | query (mode : Byte) (value : List Byte)
  /-- DEVICE_ID: ENCODE with command byte 0x05 (R72). -/
  | deviceId (mode : Byte) (value : List Byte)
  /-- WORK_MODE: ENCODE with command byte 0x06 (R72). -/
  | workMode (mode : Byte) (value : List Byte)
  /-- FIRMWARE: ENCODE with command byte 0x07 (R72). -/
  | firmware (mode : Byte) (value : List Byte)
  /-- DUTY_CYCLE: ENCODE with command byte 0x08 (R72). -/
  | dutyCycle (mode : Byte) (value : List Byte)
  /-- ACTIVE_RESPONSE: DECODE of ten bytes whose responseId (byte 1) is 0xC0 (R75, R76). -/
  | activeResponse (head : Byte) (data : Vector Byte 6) (csum tail : Byte)
  /-- PASSIVE_RESPONSE: DECODE of ten bytes whose responseId (byte 1) is 0xC5 (R75, R76). -/
  | passiveResponse (head : Byte) (data : Vector Byte 6) (csum tail : Byte)
  deriving DecidableEq, Repr

end Sys2Proof
end

