-- ==== Sys2Proof/WellFormed.lean ====
section
/-! DEFINITION. Which instructions a request port can carry (00_scope.md R4, R5; 10_state.md R33). -/

namespace Sys2Proof

/-- A value list the port carries: VLEN is four bits and VALUE has 15 bytes (R4, R33). -/
def valueFits (value : List Byte) : Bool := value.length ≤ Config.valuePort

/-- A buffer the port carries: BLEN ranges over 0..BUF_MAX (R5). -/
def bufFits (buf : List Byte) : Bool := buf.length ≤ Config.bufMax

/-- The operand sequences of an instruction fit the request port. No byte value is ill-formed
(30_encoding.md R80, R82), and LO and HI may be any numbers (R80). -/
def wellFormed : Instr → Bool
  | .encode _ _ value => valueFits value
  | .checksum buf _ _ => bufFits buf
  | .decode buf => bufFits buf
  | .classify _ => true
  | .reservedZero => true
  | .reservedFive => true
  | .reservedSixSeven _ => true
  | .reservedHigh _ => true
  | .communicationMode _ value => valueFits value
  | .query _ value => valueFits value
  | .deviceId _ value => valueFits value
  | .workMode _ value => valueFits value
  | .firmware _ value => valueFits value
  | .dutyCycle _ value => valueFits value
  | .activeResponse _ _ _ _ => true
  | .passiveResponse _ _ _ _ => true

/-- The check as a proposition. -/
abbrev WellFormed (i : Instr) : Prop := wellFormed i = true

end Sys2Proof
end

