-- ==== Sys2Proof/Decode.lean ====
section
/-! DEFINITION. The encodings of 30_encoding.md: the constants of the two frames (R70 to R77), the
operation map (R78, R79), the decoder of the request port, and after it the encoder. -/

namespace Sys2Proof

/-! ## Frame constants (30_encoding.md R70 to R76; log 13) -/

/-- head, byte 0 of both frames (R70, R75). -/
def frameHead : Byte := 0xAA
/-- tail, the last byte of both frames (R70, R75). -/
def frameTail : Byte := 0xAB
/-- commandId, byte 1 of a CommandFrame (R70). -/
def frameCommandId : Byte := 0xB4
/-- The terminator, bytes 15 and 16 of a CommandFrame (R70). -/
def frameTerminator : Byte := 0xFF
/-- CommunicationMode (R72). -/
def cmdCommunicationMode : Byte := 0x02
/-- Query (R72). -/
def cmdQuery : Byte := 0x04
/-- DeviceId (R72). -/
def cmdDeviceId : Byte := 0x05
/-- WorkMode (R72). -/
def cmdWorkMode : Byte := 0x06
/-- Firmware (R72). -/
def cmdFirmware : Byte := 0x07
/-- DutyCycle (R72). -/
def cmdDutyCycle : Byte := 0x08
/-- ActiveResponse (R76). -/
def idActiveResponse : Byte := 0xC0
/-- PassiveResponse (R76). -/
def idPassiveResponse : Byte := 0xC5
/-- RSP_LEN, the length of a ResponseFrame (R4, R75). -/
def responseLength : Nat := 10

/-- The ten bytes of a ResponseFrame layout, whatever its head, checksum and tail (R75). -/
def responseBytes (head id : Byte) (data : Vector Byte 6) (csum tail : Byte) : List Byte :=
  [head, id, data[0], data[1], data[2], data[3], data[4], data[5], csum, tail]

/-! ## The operation map as rows of mask and pattern (opcode_table.json, format "request") -/

/-- One row of the operation map: the OP values `op` with `op &&& mask = pattern`. -/
structure OpRow where
  mnemonic : String
  pattern  : BitVec 4
  mask     : BitVec 4
  deriving DecidableEq, Repr

/-- The row takes this OP value. -/
def OpRow.takes (r : OpRow) (op : BitVec 4) : Bool := op &&& r.mask == r.pattern

def rowEncode : OpRow := ⟨"ENCODE", 0x1, 0xF⟩
def rowChecksum : OpRow := ⟨"CHECKSUM", 0x2, 0xF⟩
def rowDecode : OpRow := ⟨"DECODE", 0x3, 0xF⟩
def rowClassify : OpRow := ⟨"CLASSIFY", 0x4, 0xF⟩
def rowReservedZero : OpRow := ⟨"RESERVED", 0x0, 0xF⟩
def rowReservedFive : OpRow := ⟨"RESERVED", 0x5, 0xF⟩
def rowReservedSixSeven : OpRow := ⟨"RESERVED", 0x6, 0xE⟩
def rowReservedHigh : OpRow := ⟨"RESERVED", 0x8, 0x8⟩

/-- The eight request rows of the opcode table (R78, R79). -/
def requestRows : List OpRow :=
  [rowEncode, rowChecksum, rowDecode, rowClassify,
   rowReservedZero, rowReservedFive, rowReservedSixSeven, rowReservedHigh]

/-! ## The decoder -/

/-- `value`, the byte sequence VALUE[0..VLEN) (10_state.md R33). -/
def RequestPort.valueBytes (p : RequestPort) : List Byte := p.value.toList.take p.vlen.toNat

/-- The instruction of an ENCODE request: the row of its command byte where it is one of the six
opcodes of R72, else the ENCODE row itself (log 6). -/
def encodeInstr (cmd mode : Byte) (value : List Byte) : Instr :=
  if cmd = cmdCommunicationMode then .communicationMode mode value
  else if cmd = cmdQuery then .query mode value
  else if cmd = cmdDeviceId then .deviceId mode value
  else if cmd = cmdWorkMode then .workMode mode value
  else if cmd = cmdFirmware then .firmware mode value
  else if cmd = cmdDutyCycle then .dutyCycle mode value
  else .encode cmd mode value

/-- Bytes 2 to 7 of a buffer, the data field of a ResponseFrame (R75, R82). Applied only to buffers of
ten bytes, so no byte outside the buffer is read (20_memory.md R50). -/
def responseData (b : List Byte) : Vector Byte 6 :=
  #v[b.getD 2 0, b.getD 3 0, b.getD 4 0, b.getD 5 0, b.getD 6 0, b.getD 7 0]

/-- The instruction of a DECODE request: the row of its responseId where the buffer is ten bytes long
and byte 1 is one of the two ids of R76, else the DECODE row itself (log 6). -/
def decodeInstr (b : List Byte) : Instr :=
  if b.length = responseLength then
    if b.getD 1 0 = idActiveResponse then
      .activeResponse (b.getD 0 0) (responseData b) (b.getD 8 0) (b.getD 9 0)
    else if b.getD 1 0 = idPassiveResponse then
      .passiveResponse (b.getD 0 0) (responseData b) (b.getD 8 0) (b.getD 9 0)
    else .decode b
  else .decode b

/-- The decoder (30_encoding.md R78, R79): the row that takes OP selects the operation, and only the
fields that operation reads are looked at (10_state.md R34). Total on every port: every OP value has a
row, and no field value keeps an operation from being performed (10_state.md R42, 30_encoding.md R80). -/
def decode (p : RequestPort) : Instr :=
  if rowEncode.takes p.op then encodeInstr p.cmd p.mode p.valueBytes
  else if rowChecksum.takes p.op then .checksum p.buf p.lo p.hi
  else if rowDecode.takes p.op then decodeInstr p.buf
  else if rowClassify.takes p.op then .classify p.expect
  else if rowReservedZero.takes p.op then .reservedZero
  else if rowReservedFive.takes p.op then .reservedFive
  else if rowReservedSixSeven.takes p.op then .reservedSixSeven (p.op.extractLsb' 0 1)
  else .reservedHigh (p.op.extractLsb' 0 3)

/-- The spelling the decoder gives of an instruction: the row of its command byte or responseId where
the table has one (log 6). -/
def Instr.spelling : Instr → Instr
  | .encode cmd mode value => encodeInstr cmd mode value
  | .checksum buf lo hi => .checksum buf lo hi
  | .decode buf => decodeInstr buf
  | .classify expect => .classify expect
  | .reservedZero => .reservedZero
  | .reservedFive => .reservedFive
  | .reservedSixSeven low => .reservedSixSeven low
  | .reservedHigh low => .reservedHigh low
  | .communicationMode mode value => .communicationMode mode value
  | .query mode value => .query mode value
  | .deviceId mode value => .deviceId mode value
  | .workMode mode value => .workMode mode value
  | .firmware mode value => .firmware mode value
  | .dutyCycle mode value => .dutyCycle mode value
  | .activeResponse head data csum tail => .activeResponse head data csum tail
  | .passiveResponse head data csum tail => .passiveResponse head data csum tail

/-! ## The encoder -/

/-- A port with every field zero, BLEN = 0 among them. -/
def RequestPort.zero : RequestPort where
  op := 0
  cmd := 0
  mode := 0
  vlen := 0
  value := #v[0, 0, 0, 0, 0, 0, 0, 0, 0, 0, 0, 0, 0, 0, 0]
  buf := []
  bufRest := []
  lo := 0
  hi := 0
  expect := 0

/-- The VALUE lines of a value list; lines after its last byte are zero and are not read (R34). -/
def valueLines (value : List Byte) : Vector Byte 15 :=
  #v[value.getD 0 0, value.getD 1 0, value.getD 2 0, value.getD 3 0, value.getD 4 0,
     value.getD 5 0, value.getD 6 0, value.getD 7 0, value.getD 8 0, value.getD 9 0,
     value.getD 10 0, value.getD 11 0, value.getD 12 0, value.getD 13 0, value.getD 14 0]

/-- `OP=0x1 CMD=<cmd> MODE=<mode> VLEN=k VALUE[0..k)` (R83). -/
def encodeRequest (cmd mode : Byte) (value : List Byte) : RequestPort :=
  { RequestPort.zero with
    op := 0x1, cmd := cmd, mode := mode, vlen := BitVec.ofNat 4 value.length, value := valueLines value }

/-- `OP=0x3 BLEN=n BUF[0..n)` (R83). -/
def decodeRequest (buf : List Byte) : RequestPort :=
  { RequestPort.zero with op := 0x3, buf := buf }

/-- The encoder: the field values of R83 for each instruction, every field it does not use zero. -/
def encode : Instr → RequestPort
  | .encode cmd mode value => encodeRequest cmd mode value
  | .checksum buf lo hi =>
      { RequestPort.zero with op := 0x2, buf := buf, lo := lo, hi := hi }
  | .decode buf => decodeRequest buf
  | .classify expect => { RequestPort.zero with op := 0x4, expect := expect }
  | .reservedZero => { RequestPort.zero with op := 0x0 }
  | .reservedFive => { RequestPort.zero with op := 0x5 }
  | .reservedSixSeven low => { RequestPort.zero with op := (0b011#3 ++ low : BitVec 4) }
  | .reservedHigh low => { RequestPort.zero with op := (0b1#1 ++ low : BitVec 4) }
  | .communicationMode mode value => encodeRequest cmdCommunicationMode mode value
  | .query mode value => encodeRequest cmdQuery mode value
  | .deviceId mode value => encodeRequest cmdDeviceId mode value
  | .workMode mode value => encodeRequest cmdWorkMode mode value
  | .firmware mode value => encodeRequest cmdFirmware mode value
  | .dutyCycle mode value => encodeRequest cmdDutyCycle mode value
  | .activeResponse head data csum tail =>
      decodeRequest (responseBytes head idActiveResponse data csum tail)
  | .passiveResponse head data csum tail =>
      decodeRequest (responseBytes head idPassiveResponse data csum tail)

/-- The request row of the opcode table an instruction's OP field belongs to. -/
def Instr.row : Instr → OpRow
  | .encode _ _ _ => rowEncode
  | .checksum _ _ _ => rowChecksum
  | .decode _ => rowDecode
  | .classify _ => rowClassify
  | .reservedZero => rowReservedZero
  | .reservedFive => rowReservedFive
  | .reservedSixSeven _ => rowReservedSixSeven
  | .reservedHigh _ => rowReservedHigh
  | .communicationMode _ _ => rowEncode
  | .query _ _ => rowEncode
  | .deviceId _ _ => rowEncode
  | .workMode _ _ => rowEncode
  | .firmware _ _ => rowEncode
  | .dutyCycle _ _ => rowEncode
  | .activeResponse _ _ _ _ => rowDecode
  | .passiveResponse _ _ _ _ => rowDecode

/-! ## Words as opcode_table.json numbers them -/

/-- The request a table word stands for. The table gives bits only to OP (bits 3..0 of the request
rows) and to the one byte of the frame rows. The words 0xC0 and 0xC5 are the responseId rows': a DECODE
request of ten bytes whose byte 1 is the word, the other bytes zero. Every other word is read as OP, so
the words of the command rows (0x02, 0x04 to 0x08) are those of the request rows with the same bits
(log 5). -/
def tableRequest (_nbits w : Nat) : RequestPort :=
  if w = 0xC0 ∨ w = 0xC5 then decodeRequest [0, BitVec.ofNat 8 w, 0, 0, 0, 0, 0, 0, 0, 0]
  else { RequestPort.zero with op := BitVec.ofNat 4 w }

/-- The instruction the decoder reads from a word numbered as the opcode table numbers it (log 5). -/
def decodeTableWord (nbits w : Nat) : Option Instr :=
  some (decode (tableRequest nbits w))

end Sys2Proof
end

