-- ==== Sys2Proof/Machine/Operands.lean ====
section
/-! DEFINITION. The operand sequences of the operations: the checksum function, the CommandFrame and
the ResponseFrame as byte sequences. Nothing here touches the state. -/

namespace Sys2Proof.Machine

/-- `sum8(b, lo, hi)`: the sum of bytes lo to hi-1 over the natural numbers, reduced modulo 256
(00_scope.md R9). The one checksum of the block (40_frame_codec.md R106). -/
def sum8 (b : List Byte) (lo hi : Nat) : Byte :=
  BitVec.ofNat 8 (((b.take hi).drop lo).map BitVec.toNat).sum

/-- VALUE_MAX, the most value bytes ENCODE accepts (00_scope.md R4, 30_encoding.md R73). -/
def valueMax : Nat := 10

/-- The command checksum window [1, 17): the commandId through the second terminator
(30_encoding.md R74; log 13). -/
def commandSumFrom : Nat := 1
/-- See `commandSumFrom`. -/
def commandSumEnd : Nat := 17

/-- The response checksum window [2, 8): the six data bytes (30_encoding.md R77). -/
def responseSumFrom : Nat := 2
/-- See `responseSumFrom`. -/
def responseSumEnd : Nat := 8

/-- The six command opcodes (30_encoding.md R72). -/
def commandOpcodes : List Byte :=
  [cmdCommunicationMode, cmdQuery, cmdDeviceId, cmdWorkMode, cmdFirmware, cmdDutyCycle]

/-- The two response ids (30_encoding.md R76). -/
def responseIds : List Byte := [idActiveResponse, idPassiveResponse]

/-- Payload slot 1 + i: the value byte i, or 0x00 after the last one (30_encoding.md R73). -/
def payloadSlot (value : List Byte) (i : Nat) : Byte := value.getD i 0x00

/-- Bytes 0 to 16 of a CommandFrame, all that its checksum is taken over (30_encoding.md R70). -/
def commandBody (cmd mode : Byte) (value : List Byte) : List Byte :=
  [frameHead, frameCommandId, cmd, mode,
   payloadSlot value 0, payloadSlot value 1, payloadSlot value 2, payloadSlot value 3,
   payloadSlot value 4, payloadSlot value 5, payloadSlot value 6, payloadSlot value 7,
   payloadSlot value 8, payloadSlot value 9, payloadSlot value 10,
   frameTerminator, frameTerminator]

/-- The CommandFrame of a command, mode byte and value bytes (30_encoding.md R70, 40_frame_codec.md R101). -/
def commandFrame (cmd mode : Byte) (value : List Byte) : Vector Byte 19 :=
  #v[frameHead, frameCommandId, cmd, mode,
     payloadSlot value 0, payloadSlot value 1, payloadSlot value 2, payloadSlot value 3,
     payloadSlot value 4, payloadSlot value 5, payloadSlot value 6, payloadSlot value 7,
     payloadSlot value 8, payloadSlot value 9, payloadSlot value 10,
     frameTerminator, frameTerminator,
     sum8 (commandBody cmd mode value) commandSumFrom commandSumEnd,
     frameTail]

/-- `b[i]`. Every rule checks its bounds first, so `i` lies inside `b` wherever the value is used
(20_memory.md R50). -/
def byteAt (b : List Byte) (i : Nat) : Byte := b.getD i 0

end Sys2Proof.Machine
end

