-- ==== Sys2Proof/Machine/State.lean ====
section
/-! DEFINITION. The state of the block: the ten result registers of 10_state.md R23, and the model's
two lists of what crosses its ports (log 1, log 2). -/

namespace Sys2Proof.Machine

/-- STATUS (10_state.md R24, 60_exceptions.md R160). The reserved codes 0xA to 0xE are never produced
and have no constructor (93_implementation_defined.md U3, log 16). -/
inductive Status where
  | ok | invalidArgument | frameTooShort | badHeader | badChecksum | unknownResponseId
  | badTail | badRange | noValidFrame | badOp | none
  deriving DecidableEq, Repr

/-- CAUSE (10_state.md R25). The reserved value 3 has no constructor (U3, log 16). -/
inductive Cause where
  | none | badCommand | valueOverflow
  deriving DecidableEq, Repr

/-- RX_KIND: the responseId of the held frame (10_state.md R27). -/
inductive RxKind where
  | active | passive
  deriving DecidableEq, Repr

/-- CLASS: the classification of the held frame (10_state.md R28). -/
inductive FrameClass where
  | none | activeReport | passiveReply | stale
  deriving DecidableEq, Repr

/-- The result registers by name (10_state.md R23). -/
inductive ResultReg where
  | status | cause | txvalid | txbuf | rxvalid | rxKind | rxData | cls | csvalid | csumOut
  deriving DecidableEq, Repr

/-- What a read of a result register gives, at the width of R23. -/
inductive RegValue where
  | status (v : BitVec 4)
  | cause (v : BitVec 2)
  | valid (v : Bool)
  | txbuf (v : Vector Byte 19)
  | rxKind (v : BitVec 1)
  | rxData (v : Vector Byte 6)
  | cls (v : BitVec 2)
  | csumOut (v : Byte)
  deriving DecidableEq, Repr

/-- Why a step stops with a fault. -/
inductive Fault where
  /-- A data register that holds no value was read. Raised by a host read of one whose valid bit is 0
  (10_state.md R31, 93_implementation_defined.md U1), and by CLASSIFY in a state no run reaches, with
  RXVALID = 1 and no held frame (log 8). Safe: no number is made up. -/
  | noValue (r : ResultReg)
  deriving DecidableEq, Repr

/-- Why a step is refused. -/
inductive Refusal where
  /-- An instruction without a meaning. No arm of this model uses it. Safe. -/
  | notModelled (mnemonic : String)
  /-- The host does nothing, so the block has no step (10_state.md R20). Raised by `step`. Safe (log 10). -/
  | noEvent
  deriving DecidableEq, Repr

/-- One response, the lines of the response port when an operation ends (10_state.md R35): every result
register of R23 and the two derived outputs of R141 and R142. A register without value is `none`. -/
structure Response where
  status         : BitVec 4
  cause          : BitVec 2
  txvalid        : Bool
  txbuf          : Option (Vector Byte 19)
  rxvalid        : Bool
  rxKind         : Option (BitVec 1)
  rxData         : Option (Vector Byte 6)
  cls            : BitVec 2
  csvalid        : Bool
  csumOut        : Option Byte
  isActive       : Bool
  isPassiveReply : Bool
  deriving DecidableEq, Repr

/-- What the host does at the block's ports (10_state.md R33, R35, R36). -/
inductive HostEvent where
  /-- It presents a request, which is performed to its end. -/
  | request (p : RequestPort)
  /-- It asserts RST, with the request in flight at that moment if there is one; that request is lost
  (70_reset_and_hazards.md R190, log 11). -/
  | rst (inFlight : Option RequestPort)
  /-- It reads a result register on the response port (10_state.md R30, R31; log 12). -/
  | read (r : ResultReg)
  deriving DecidableEq, Repr

/-- The state. The first ten fields are the architected state, exactly the registers of 10_state.md R23;
a data register that holds no value (00_scope.md R12) is `none`. The last two are the model's own. -/
structure State where
  /-- STATUS, R24. -/
  status    : Status
  /-- CAUSE, R25. -/
  cause     : Cause
  /-- TXVALID, R26. -/
  txvalid   : Bool
  /-- TXBUF, R26. -/
  txbuf     : Option (Vector Byte 19)
  /-- RXVALID, R27. -/
  rxvalid   : Bool
  /-- RX_KIND, R27. -/
  rxKind    : Option RxKind
  /-- RX_DATA, R27. -/
  rxData    : Option (Vector Byte 6)
  /-- CLASS, R28. -/
  cls       : FrameClass
  /-- CSVALID, R29. -/
  csvalid   : Bool
  /-- CSUM_OUT, R29. -/
  csumOut   : Option Byte
  /-- Model's own: what the host will do, next event first (log 1). -/
  pending   : List HostEvent
  /-- Model's own: the responses produced, oldest first (log 2). -/
  responses : List Response
  deriving DecidableEq, Repr

/-- The state after the reset event (10_state.md R23, 70_reset_and_hazards.md R190), with nothing
presented and no response produced (log 19). -/
def State.reset : State where
  status := .none
  cause := .none
  txvalid := false
  txbuf := none
  rxvalid := false
  rxKind := none
  rxData := none
  cls := .none
  csvalid := false
  csumOut := none
  pending := []
  responses := []

/-- What an operation ends with. -/
abbrev Result := Host.Outcome State Fault Refusal

end Sys2Proof.Machine
end

