-- ==== Sys2Proof/Machine/Flags.lean ====
section
/-! DEFINITION. The status, cause, kind and class of an operation: their codes, and the checks that
decide them in the order of the rules (60_exceptions.md R160 to R166). -/

namespace Sys2Proof.Machine

/-! ## Codes -/

/-- The 4-bit code of STATUS (60_exceptions.md R160). -/
def Status.code : Status → BitVec 4
  | .ok => 0x0
  | .invalidArgument => 0x1
  | .frameTooShort => 0x2
  | .badHeader => 0x3
  | .badChecksum => 0x4
  | .unknownResponseId => 0x5
  | .badTail => 0x6
  | .badRange => 0x7
  | .noValidFrame => 0x8
  | .badOp => 0x9
  | .none => 0xF

/-- The 2-bit code of CAUSE (10_state.md R25). -/
def Cause.code : Cause → BitVec 2
  | .none => 0
  | .badCommand => 1
  | .valueOverflow => 2

/-- The 1-bit code of RX_KIND (10_state.md R27). -/
def RxKind.code : RxKind → BitVec 1
  | .active => 0
  | .passive => 1

/-- The 2-bit code of CLASS (10_state.md R28). -/
def FrameClass.code : FrameClass → BitVec 2
  | .none => 0
  | .activeReport => 1
  | .passiveReply => 2
  | .stale => 3

/-- The source's class of a status (60_exceptions.md R160, R163): true for `DecodeError`, whose codes
the source calls safe to retry. -/
def Status.isDecodeError : Status → Bool
  | .frameTooShort | .badHeader | .badChecksum | .unknownResponseId | .badTail => true
  | .ok | .invalidArgument | .badRange | .noValidFrame | .badOp | .none => false

/-- The source's class of a status (60_exceptions.md R160, R163): true for `EncodeError`. -/
def Status.isEncodeError : Status → Bool
  | .invalidArgument => true
  | .ok | .frameTooShort | .badHeader | .badChecksum | .unknownResponseId | .badTail
  | .badRange | .noValidFrame | .badOp | .none => false

/-! ## Checks -/

/-- The first check of ENCODE that fails: the command byte before the value count
(40_frame_codec.md R101, 60_exceptions.md R165). -/
def encodeError (cmd : Byte) (value : List Byte) : Option Cause :=
  if cmd ∉ commandOpcodes then some .badCommand
  else if value.length > valueMax then some .valueOverflow
  else none

/-- The range of a CHECKSUM lies inside the buffer the port carries (40_frame_codec.md R105). -/
def rangeOk (b : List Byte) (lo hi : Nat) : Bool :=
  lo ≤ hi && hi ≤ b.length && hi ≤ Config.bufMax

/-- The first check of DECODE that fails: length, head, checksum, responseId, tail
(40_frame_codec.md R110, 60_exceptions.md R164). -/
def responseError (b : List Byte) : Option Status :=
  if b.length ≠ responseLength then some .frameTooShort
  else if byteAt b 0 ≠ frameHead then some .badHeader
  else if sum8 b responseSumFrom responseSumEnd ≠ byteAt b 8 then some .badChecksum
  else if byteAt b 1 ∉ responseIds then some .unknownResponseId
  else if byteAt b 9 ≠ frameTail then some .badTail
  else none

/-- RX_KIND of a responseId (40_frame_codec.md R110). -/
def kindOf (id : Byte) : RxKind := if id = idActiveResponse then .active else .passive

/-- The class of a held passive frame (41_response_classifier.md R140, R142, R143): only `data[0]` is
compared (R146). -/
def echoClass (data : Vector Byte 6) (expect : Byte) : FrameClass :=
  if data[0] = expect then .passiveReply else .stale

/-! ## Derived outputs -/

/-- IS_ACTIVE (41_response_classifier.md R141). -/
def State.isActive (s : State) : Bool := s.cls = .activeReport

/-- IS_PASSIVE_REPLY (41_response_classifier.md R142). -/
def State.isPassiveReply (s : State) : Bool := s.cls = .passiveReply

end Sys2Proof.Machine
end

