-- ==== Sys2Proof/Machine/Ops.lean ====
section
/-! DEFINITION. The named operations over the result registers: ending an operation well or with a
failure, holding and clearing each family's data, the response, the reset event, the host's reads. -/

namespace Sys2Proof.Machine

/-! ## How an operation ends -/

/-- `finish(OK)` with CAUSE = NONE: the operation is successful (00_scope.md R8, R10; 10_state.md R25). -/
def State.finish (s : State) : State := { s with status := .ok, cause := .none }

/-- `fail(code, cause)` (00_scope.md R8, 60_exceptions.md R161). The one way a failure is taken: STATUS
and CAUSE are written, no state is saved, control goes nowhere. There is no return from it (R168). The
failure writes of an operation's own rule stand beside it in that operation. -/
def State.fail (s : State) (code : Status) (cause : Cause) : State := { s with status := code, cause := cause }

/-! ## The data registers: a value with valid bit 1, or no value with valid bit 0 -/

/-- TXVALID <- 1, TXBUF <- f (10_state.md R26). -/
def State.holdTx (s : State) (f : Vector Byte 19) : State := { s with txvalid := true, txbuf := some f }

/-- TXVALID <- 0, TXBUF <- no value (10_state.md R26). -/
def State.clearTx (s : State) : State := { s with txvalid := false, txbuf := none }

/-- RXVALID <- 1, RX_KIND <- k, RX_DATA <- d (10_state.md R27). -/
def State.holdRx (s : State) (k : RxKind) (d : Vector Byte 6) : State :=
  { s with rxvalid := true, rxKind := some k, rxData := some d }

/-- RXVALID <- 0, RX_KIND and RX_DATA <- no value (10_state.md R27). -/
def State.clearRx (s : State) : State := { s with rxvalid := false, rxKind := none, rxData := none }

/-- CLASS <- c (10_state.md R28). -/
def State.setClass (s : State) (c : FrameClass) : State := { s with cls := c }

/-- CSVALID <- 1, CSUM_OUT <- v (10_state.md R29). -/
def State.holdCsum (s : State) (v : Byte) : State := { s with csvalid := true, csumOut := some v }

/-- CSVALID <- 0, CSUM_OUT <- no value (10_state.md R29). -/
def State.clearCsum (s : State) : State := { s with csvalid := false, csumOut := none }

/-! ## The response port -/

/-- The lines of the response port (10_state.md R35). -/
def State.response (s : State) : Response where
  status := s.status.code
  cause := s.cause.code
  txvalid := s.txvalid
  txbuf := s.txbuf
  rxvalid := s.rxvalid
  rxKind := s.rxKind.map RxKind.code
  rxData := s.rxData
  cls := s.cls.code
  csvalid := s.csvalid
  csumOut := s.csumOut
  isActive := s.isActive
  isPassiveReply := s.isPassiveReply

/-- The response to the request just performed is produced (10_state.md R35; log 2). -/
def State.respond (s : State) : State := { s with responses := s.responses ++ [s.response] }

/-- The response of an operation that has completed; an operation that stops produces none. -/
def respond : Result → Result
  | .next s => .next s.respond
  | .fault r => .fault r
  | .refused r => .refused r

/-! ## Reset -/

/-- The reset event (70_reset_and_hazards.md R190): every result register takes its reset value. What
the host will do next, and the responses already produced, are not the block's (log 1, log 2). -/
def State.resetEvent (s : State) : State :=
  { State.reset with pending := s.pending, responses := s.responses }

/-! ## Reads by the host (10_state.md R30, R31) -/

/-- A data register: its value, where its valid bit is 1 and it holds one; else a fault of the reader. -/
def readData {α : Type} (r : ResultReg) (valid : Bool) (v : Option α) (as : α → RegValue) :
    Host.Outcome RegValue Fault Refusal :=
  match valid, v with
  | true, some x => .next (as x)
  | true, none => .fault (.noValue r)
  | false, some _ => .fault (.noValue r)
  | false, none => .fault (.noValue r)

/-- What the host reads of a result register on the response port (10_state.md R30, R31, R35). -/
def readReg (r : ResultReg) (s : State) : Host.Outcome RegValue Fault Refusal :=
  match r with
  | .status => .next (.status s.status.code)
  | .cause => .next (.cause s.cause.code)
  | .txvalid => .next (.valid s.txvalid)
  | .txbuf => readData .txbuf s.txvalid s.txbuf .txbuf
  | .rxvalid => .next (.valid s.rxvalid)
  | .rxKind => readData .rxKind s.rxvalid s.rxKind (fun k => .rxKind k.code)
  | .rxData => readData .rxData s.rxvalid s.rxData .rxData
  | .cls => .next (.cls s.cls.code)
  | .csvalid => .next (.valid s.csvalid)
  | .csumOut => readData .csumOut s.csvalid s.csumOut .csumOut

/-- A read as an event: it changes nothing (20_memory.md R56), and is a fault where there is no value
to read (10_state.md R31; log 12). -/
def readEvent (r : ResultReg) (s : State) : Result :=
  match readReg r s with
  | .next _ => .next s
  | .fault f => .fault f
  | .refused f => .refused f

end Sys2Proof.Machine
end

