-- ==== Sys2Proof/Machine/FrameCodec.lean ====
section
/-! DEFINITION. The operations of 40_frame_codec.md: ENCODE, CHECKSUM, DECODE, and the table's frame
rows, each of which is ENCODE or DECODE with one byte fixed (log 6). -/

namespace Sys2Proof.Machine

/-- ENCODE as a state change (40_frame_codec.md R101). -/
def encodeOp (cmd mode : Byte) (value : List Byte) (s : State) : State :=
  match encodeError cmd value with
  | some cause => s.clearTx.fail .invalidArgument cause
  | none => (s.holdTx (commandFrame cmd mode value)).finish

/-- CHECKSUM as a state change (40_frame_codec.md R105). -/
def checksumOp (b : List Byte) (lo hi : Nat) (s : State) : State :=
  if rangeOk b lo hi then (s.holdCsum (sum8 b lo hi)).finish
  else s.clearCsum.fail .badRange .none

/-- DECODE as a state change (40_frame_codec.md R110). CLASS is written NONE whatever the outcome. -/
def decodeOp (b : List Byte) (s : State) : State :=
  match responseError b with
  | some code => ((s.setClass .none).clearRx).fail code .none
  | none => ((s.setClass .none).holdRx (kindOf (byteAt b 1)) (responseData b)).finish

/-- ENCODE (R101). -/
def execEncode (cmd mode : Byte) (value : List Byte) (s : State) : Result :=
  .next (encodeOp cmd mode value s)

/-- CHECKSUM (R105). -/
def execChecksum (buf : List Byte) (lo hi : Nat) (s : State) : Result :=
  .next (checksumOp buf lo hi s)

/-- DECODE (R110). -/
def execDecode (buf : List Byte) (s : State) : Result :=
  .next (decodeOp buf s)

/-- COMMUNICATION_MODE: ENCODE of command 0x02 (R72, R101). -/
def execCommunicationMode (mode : Byte) (value : List Byte) (s : State) : Result :=
  .next (encodeOp cmdCommunicationMode mode value s)

/-- QUERY: ENCODE of command 0x04 (R72, R101). -/
def execQuery (mode : Byte) (value : List Byte) (s : State) : Result :=
  .next (encodeOp cmdQuery mode value s)

/-- DEVICE_ID: ENCODE of command 0x05 (R72, R101). -/
def execDeviceId (mode : Byte) (value : List Byte) (s : State) : Result :=
  .next (encodeOp cmdDeviceId mode value s)

/-- WORK_MODE: ENCODE of command 0x06 (R72, R101). -/
def execWorkMode (mode : Byte) (value : List Byte) (s : State) : Result :=
  .next (encodeOp cmdWorkMode mode value s)

/-- FIRMWARE: ENCODE of command 0x07 (R72, R101). -/
def execFirmware (mode : Byte) (value : List Byte) (s : State) : Result :=
  .next (encodeOp cmdFirmware mode value s)

/-- DUTY_CYCLE: ENCODE of command 0x08 (R72, R101). The period is not range-checked (R104). -/
def execDutyCycle (mode : Byte) (value : List Byte) (s : State) : Result :=
  .next (encodeOp cmdDutyCycle mode value s)

/-- ACTIVE_RESPONSE: DECODE of ten bytes with responseId 0xC0 (R75, R76, R110). -/
def execActiveResponse (head : Byte) (data : Vector Byte 6) (csum tail : Byte) (s : State) : Result :=
  .next (decodeOp (responseBytes head idActiveResponse data csum tail) s)

/-- PASSIVE_RESPONSE: DECODE of ten bytes with responseId 0xC5 (R75, R76, R110). -/
def execPassiveResponse (head : Byte) (data : Vector Byte 6) (csum tail : Byte) (s : State) : Result :=
  .next (decodeOp (responseBytes head idPassiveResponse data csum tail) s)

end Sys2Proof.Machine
end

