-- ==== Sys2Proof/Machine/ReservedOp.lean ====
section
/-! DEFINITION. The reserved OP values (60_exceptions.md R167): BAD_OP, and no other register written. -/

namespace Sys2Proof.Machine

/-- A reserved OP as a state change (30_encoding.md R79, 60_exceptions.md R167). -/
def reservedOp (s : State) : State := s.fail .badOp .none

/-- RESERVED, OP 0x0 (R167). -/
def execReservedZero (s : State) : Result := .next (reservedOp s)

/-- RESERVED, OP 0x5 (R167). -/
def execReservedFive (s : State) : Result := .next (reservedOp s)

/-- RESERVED, OP 0x6 or 0x7 (R167). -/
def execReservedSixSeven (_low : BitVec 1) (s : State) : Result := .next (reservedOp s)

/-- RESERVED, OP 0x8 to 0xF (R167). -/
def execReservedHigh (_low : BitVec 3) (s : State) : Result := .next (reservedOp s)

end Sys2Proof.Machine
end

