-- ==== Sys2Proof/Machine/ResponseClassifier.lean ====
section
/-! DEFINITION. The operation of 41_response_classifier.md: CLASSIFY. -/

namespace Sys2Proof.Machine

/-- CLASSIFY (41_response_classifier.md R140). RX_KIND is read only while RXVALID = 1, and RX_DATA only
of a passive frame; where a register read so holds no value, which no run reaches, the read is a fault
(10_state.md R31; log 8). -/
def execClassify (expect : Byte) (s : State) : Result :=
  if s.rxvalid then
    match s.rxKind with
    | none => .fault (.noValue .rxKind)
    | some .active => .next (s.setClass .activeReport).finish
    | some .passive =>
      match s.rxData with
      | none => .fault (.noValue .rxData)
      | some data => .next (s.setClass (echoClass data expect)).finish
  else .next ((s.setClass .none).fail .noValidFrame .none)

end Sys2Proof.Machine
end

