-- ==== Sys2Proof/Machine/Dispatch.lean ====
section
/-! DEFINITION. One arm for each instruction. -/

namespace Sys2Proof.Machine

def exec (i : Instr) (s : State) : Host.Outcome State Fault Refusal :=
  match i with
  | .encode cmd mode value => Sys2Proof.Machine.execEncode cmd mode value s
  | .checksum buf lo hi => Sys2Proof.Machine.execChecksum buf lo hi s
  | .decode buf => Sys2Proof.Machine.execDecode buf s
  | .classify expect => Sys2Proof.Machine.execClassify expect s
  | .reservedZero => Sys2Proof.Machine.execReservedZero s
  | .reservedFive => Sys2Proof.Machine.execReservedFive s
  | .reservedSixSeven low => Sys2Proof.Machine.execReservedSixSeven low s
  | .reservedHigh low => Sys2Proof.Machine.execReservedHigh low s
  | .communicationMode mode value => Sys2Proof.Machine.execCommunicationMode mode value s
  | .query mode value => Sys2Proof.Machine.execQuery mode value s
  | .deviceId mode value => Sys2Proof.Machine.execDeviceId mode value s
  | .workMode mode value => Sys2Proof.Machine.execWorkMode mode value s
  | .firmware mode value => Sys2Proof.Machine.execFirmware mode value s
  | .dutyCycle mode value => Sys2Proof.Machine.execDutyCycle mode value s
  | .activeResponse head data csum tail => Sys2Proof.Machine.execActiveResponse head data csum tail s
  | .passiveResponse head data csum tail => Sys2Proof.Machine.execPassiveResponse head data csum tail s

end Sys2Proof.Machine
end

