-- ==== Sys2Proof/Machine/Perform.lean ====
section
/-! DEFINITION. What one event at the ports does: a request is decoded, performed and answered; RST
resets; a read reads. -/

namespace Sys2Proof.Machine

/-- A request is decoded, its operation performed as one atomic step, and its one response produced,
whatever its field values (10_state.md R20, R35, R42; 20_memory.md R55). -/
def performRequest (p : RequestPort) (s : State) : Result := respond (exec (decode p) s)

/-- One event at the ports. A request in flight when RST is asserted is discarded: it writes nothing
and gets no response (70_reset_and_hazards.md R190; log 11). -/
def perform : HostEvent → State → Result
  | .request p, s => performRequest p s
  | .rst _, s => .next s.resetEvent
  | .read r, s => readEvent r s

end Sys2Proof.Machine
end

