-- ==== Sys2Proof/Machine/Step.lean ====
section
/-! DEFINITION. One step: the host's next event happens. -/

namespace Sys2Proof.Machine

/-- One step. With nothing presented the block has no step (10_state.md R20; log 10). -/
def step (s : State) : Host.Outcome State Fault Refusal :=
  match s.pending with
  | [] => .refused .noEvent
  | e :: rest => perform e { s with pending := rest }

/-- The request a table word stands for, presented as the host's next event (log 1, log 5). -/
def State.withFetchWord (s : State) (nbits w : Nat) : State :=
  { s with pending := .request (tableRequest nbits w) :: s.pending }

end Sys2Proof.Machine
end

