-- ==== Sys2Proof/Safety.lean ====
section
/-! DEFINITION. What every reachable state of the block satisfies, and the parts of the state that
claims about noninterference compare. -/

namespace Sys2Proof.Machine

/-- A CommandFrame as 30_encoding.md R70 to R74 lay it out: the constant bytes, one of the six command
opcodes, and the checksum over bytes 1 to 16. -/
def isCommandFrame (f : Vector Byte 19) : Bool :=
  f[0] == frameHead && f[1] == frameCommandId && decide (f[2] ∈ commandOpcodes) &&
  f[14] == 0x00 && f[15] == frameTerminator && f[16] == frameTerminator &&
  f[17] == sum8 f.toList commandSumFrom commandSumEnd && f[18] == frameTail

/-- The data registers hold a value exactly while their valid bit is 1 (10_state.md R23, R26, R27, R29). -/
def State.ValidBits (s : State) : Prop :=
  s.txvalid = s.txbuf.isSome ∧ s.rxvalid = s.rxKind.isSome ∧ s.rxvalid = s.rxData.isSome ∧
  s.csvalid = s.csumOut.isSome

/-- A held command frame is well laid out (30_encoding.md R71, 40_frame_codec.md R103). -/
def State.FrameBuilt (s : State) : Prop := s.txbuf.all isCommandFrame = true

/-- CAUSE is not NONE exactly with STATUS = INVALID_ARGUMENT (10_state.md R25). -/
def State.CauseMatches (s : State) : Prop := s.cause ≠ .none ↔ s.status = .invalidArgument

/-- CLASS belongs to the held frame (70_reset_and_hazards.md R198, 41_response_classifier.md R141 to R143). -/
def State.ClassMatches (s : State) : Prop :=
  (s.cls = .activeReport → s.rxKind = some .active) ∧
  (s.cls = .passiveReply → s.rxKind = some .passive) ∧
  (s.cls = .stale → s.rxKind = some .passive)

/-- While STATUS = NONE nothing is held (10_state.md R24, 70_reset_and_hazards.md R190). -/
def State.NothingHeld (s : State) : Prop :=
  s.status = .none → s.txvalid = false ∧ s.rxvalid = false ∧ s.cls = .none ∧ s.csvalid = false

/-- The invariant of the block: what holds in every state a run reaches. -/
structure State.Inv (s : State) : Prop where
  valid   : s.ValidBits
  frame   : s.FrameBuilt
  cause   : s.CauseMatches
  cls     : s.ClassMatches
  nothing : s.NothingHeld

/-! ## Terms the statements use -/

/-- `b[lo] + b[lo+1] + ... + b[hi-1]` over the natural numbers, byte by byte (00_scope.md R9). -/
def sumBytes (b : List Byte) (lo hi : Nat) : Nat :=
  ((List.range (hi - lo)).map (fun k => (b.getD (lo + k) 0).toNat)).sum

/-- The frame is the CommandFrame of these arguments, byte by byte (30_encoding.md R70, R73, R74). -/
structure BuiltFrom (f : Vector Byte 19) (cmd mode : Byte) (value : List Byte) : Prop where
  head      : f[0] = 0xAA
  commandId : f[1] = 0xB4
  command   : f[2] = cmd
  modeByte  : f[3] = mode
  slots     : ∀ i : Fin 11, f[4 + i.val] = value.getD i 0x00
  term0     : f[15] = 0xFF
  term1     : f[16] = 0xFF
  checksum  : f[17] = BitVec.ofNat 8 (sumBytes f.toList 1 17)
  tail      : f[18] = 0xAB

/-- The state after a successful ENCODE that built `f`: nothing else changes (40_frame_codec.md R101). -/
def State.encoded (s : State) (f : Vector Byte 19) : State :=
  { s with status := .ok, cause := .none, txvalid := true, txbuf := some f }

/-- The state after a failed ENCODE (40_frame_codec.md R101). -/
def State.encodeFailed (s : State) (c : Cause) : State :=
  { s with status := .invalidArgument, cause := c, txvalid := false, txbuf := none }

/-- The state after a successful DECODE (40_frame_codec.md R110). -/
def State.decoded (s : State) (k : RxKind) (d : Vector Byte 6) : State :=
  { s with
    status := .ok, cause := .none, rxvalid := true, rxKind := some k, rxData := some d, cls := .none }

/-- The state after a failed DECODE (40_frame_codec.md R110). -/
def State.decodeFailed (s : State) (code : Status) : State :=
  { s with
    status := code, cause := .none, rxvalid := false, rxKind := none, rxData := none, cls := .none }

/-- The valid ResponseFrame of a responseId and six data bytes (30_encoding.md R75, R77). -/
def validFrame (id : Byte) (d : Vector Byte 6) : List Byte :=
  [0xAA, id, d[0], d[1], d[2], d[3], d[4], d[5],
   BitVec.ofNat 8 (d[0].toNat + d[1].toNat + d[2].toNat + d[3].toNat + d[4].toNat + d[5].toNat), 0xAB]

/-- Two ports agree on what the operation of their common OP reads (20_memory.md R54): of BUF, CHECKSUM
reads the bytes of a range it accepts (40_frame_codec.md R105), and DECODE ten bytes or none (R111). -/
structure AgreeOnReadFields (p q : RequestPort) : Prop where
  op       : p.op = q.op
  encode   : p.op = 0x1 → p.cmd = q.cmd ∧ p.mode = q.mode ∧ p.vlen = q.vlen ∧
    ∀ i : Fin 15, i.val < p.vlen.toNat → p.value[i] = q.value[i]
  checksum : p.op = 0x2 → p.blen = q.blen ∧ p.lo = q.lo ∧ p.hi = q.hi ∧
    (p.hi ≤ p.blen → p.hi ≤ Config.bufMax → ∀ i, p.lo ≤ i → i < p.hi → p.buf[i]? = q.buf[i]?)
  decode   : p.op = 0x3 → p.blen = q.blen ∧ (p.blen = 10 → ∀ i, i < 10 → p.buf[i]? = q.buf[i]?)
  classify : p.op = 0x4 → p.expect = q.expect

/-! ## Parts of the state -/

/-- Two states have the same result registers (10_state.md R23). -/
def SameRegs (s t : State) : Prop :=
  s.status = t.status ∧ s.cause = t.cause ∧ s.txvalid = t.txvalid ∧ s.txbuf = t.txbuf ∧
  s.rxvalid = t.rxvalid ∧ s.rxKind = t.rxKind ∧ s.rxData = t.rxData ∧ s.cls = t.cls ∧
  s.csvalid = t.csvalid ∧ s.csumOut = t.csumOut

/-- The transmit registers agree. -/
def SameTx (s t : State) : Prop := s.txvalid = t.txvalid ∧ s.txbuf = t.txbuf

/-- The held response frame agrees. -/
def SameRx (s t : State) : Prop := s.rxvalid = t.rxvalid ∧ s.rxKind = t.rxKind ∧ s.rxData = t.rxData

/-- The checksum registers agree. -/
def SameCsum (s t : State) : Prop := s.csvalid = t.csvalid ∧ s.csumOut = t.csumOut

/-- What the host will do and the responses produced agree. -/
def SamePorts (s t : State) : Prop := s.pending = t.pending ∧ s.responses = t.responses

/-- The host's event can happen: any request, RST, or a read of a register that holds a value or needs
none (10_state.md R31, R42; log 12). -/
def EventReady (s : State) : HostEvent → Prop
  | .request _ => True
  | .rst _ => True
  | .read .txbuf => s.txvalid = true
  | .read .rxKind => s.rxvalid = true
  | .read .rxData => s.rxvalid = true
  | .read .csumOut => s.csvalid = true
  | .read .status => True
  | .read .cause => True
  | .read .txvalid => True
  | .read .rxvalid => True
  | .read .cls => True
  | .read .csvalid => True

/-- The line of a response that carries a register, at the register's width; none where a data register
has no value (10_state.md R23, R35). -/
def Response.line (o : Response) : ResultReg → Option RegValue
  | .status => some (.status o.status)
  | .cause => some (.cause o.cause)
  | .txvalid => some (.valid o.txvalid)
  | .txbuf => o.txbuf.map .txbuf
  | .rxvalid => some (.valid o.rxvalid)
  | .rxKind => o.rxKind.map .rxKind
  | .rxData => o.rxData.map .rxData
  | .cls => some (.cls o.cls)
  | .csvalid => some (.valid o.csvalid)
  | .csumOut => o.csumOut.map .csumOut

/-- The responses a list of events draws: one for each request, none for a reset or a read
(10_state.md R35, 70_reset_and_hazards.md R190). -/
def requestCount : List HostEvent → Nat
  | [] => 0
  | .request _ :: rest => requestCount rest + 1
  | .rst _ :: rest => requestCount rest
  | .read _ :: rest => requestCount rest

end Sys2Proof.Machine
end

