-- ==== Sys2Proof/Certificates/Slice0/Obligations.lean ====
section
/-! DEFINITION. The statements for the provers. Each docstring names the rule of spec/ it formalises, or
says what of it is the model's own choice. -/

open Sys2Proof Sys2Proof.Machine

/-! ## Reset -/

/-- R190: from any state, with or without a request in flight, RST gives the table of R190; the request
in flight writes nothing and draws no response. -/
def Obligations.ResetEventGivesResetTable : Prop :=
  ∀ (s : State) (q : Option RequestPort) (rest : List HostEvent), s.pending = .rst q :: rest →
    ∃ t, step s = .next t ∧ t.status.code = 0xF ∧ t.cause.code = 0 ∧
      t.txvalid = false ∧ t.txbuf = none ∧ t.rxvalid = false ∧ t.rxKind = none ∧ t.rxData = none ∧
      t.cls.code = 0 ∧ t.csvalid = false ∧ t.csumOut = none ∧
      t.pending = rest ∧ t.responses = s.responses

/-- The invariant of the block holds at reset. -/
def Obligations.ResetStateMeetsInvariant : Prop := State.reset.Inv

/-- Whole machine: every step keeps the invariant: valid bits match the data registers, a held command
frame is well laid out, CAUSE goes with INVALID_ARGUMENT only, CLASS belongs to the held frame, and
nothing is held while STATUS = NONE. -/
def Obligations.StepKeepsInvariant : Prop :=
  ∀ s t : State, s.Inv → step s = .next t → t.Inv

/-- Whole machine, of R24: only RST leads from another status to STATUS = NONE. -/
def Obligations.OnlyResetGivesStatusNone : Prop :=
  ∀ s t : State, step s = .next t → s.status ≠ .none → t.status = .none →
    ∃ q rest, s.pending = .rst q :: rest

/-! ## The step, the decoder and the encoder -/

/-- A step on a presented request is `exec` of the decoded instruction, and then the one response. That
the request stands in the list of pending events is the model's choice (log 1). -/
def Obligations.StepRunsDecodedRequest : Prop :=
  ∀ (s : State) (p : RequestPort) (rest : List HostEvent), s.pending = .request p :: rest →
    step s = match exec (decode p) { s with pending := rest } with
      | .next t => .next { t with responses := t.responses ++ [t.response] }
      | .fault f => .fault f
      | .refused f => .refused f

/-- The step is refused exactly when nothing is presented. That this is a refusal is the model's choice
(log 10). -/
def Obligations.StepIsRefusedOnlyWithNothingPresented : Prop :=
  ∀ s : State, (s.pending = [] → step s = .refused .noEvent) ∧
    (∀ f : Refusal, step s = .refused f → s.pending = [])

/-- The words of the opcode table, and request fields written out from 10_state.md R33 and
30_encoding.md R78, decode to the instruction they stand for. Which of the table's formats a word is
read in is the model's choice (log 5). -/
def Obligations.WrittenOutWordsDecode : Prop :=
  decodeTableWord 8 0x1 = some (.encode 0 0 []) ∧ decodeTableWord 8 0x2 = some (.checksum [] 0 0) ∧
  decodeTableWord 8 0x3 = some (.decode []) ∧ decodeTableWord 8 0x4 = some (.classify 0) ∧
  decodeTableWord 8 0x0 = some .reservedZero ∧ decodeTableWord 8 0x5 = some .reservedFive ∧
  decodeTableWord 8 0x7 = some (.reservedSixSeven 1) ∧ decodeTableWord 8 0xD = some (.reservedHigh 5) ∧
  decode { RequestPort.zero with
    op := 0b0001, cmd := 0x08, mode := 0x01, vlen := 0b0001,
    value := #v[0x1E, 9, 9, 9, 9, 9, 9, 9, 9, 9, 9, 9, 9, 9, 9] } = .dutyCycle 0x01 [0x1E] ∧
  decode { RequestPort.zero with
    op := 0b0011, buf := [0xAA, 0xC0, 1, 2, 3, 4, 5, 6, 0x15, 0xAB], bufRest := [7] }
    = .activeResponse 0xAA #v[1, 2, 3, 4, 5, 6] 0x15 0xAB

/-- The opcode table's request rows: the row of the decoded instruction takes the port's OP, and no
other row does (R78, R79). -/
def Obligations.DecodedRowIsTheOnlyRowOfOp : Prop :=
  ∀ p : RequestPort, requestRows.filter (fun r => r.takes p.op) = [(decode p).row]

/-- Decoding an encoded well-formed instruction gives it back, in the spelling of the table's most
specific row. An instruction already spelt so comes back unchanged. The spelling is the model's choice
(log 6). -/
def Obligations.DecodeOfEncodeGivesInstruction : Prop :=
  ∀ i : Instr, WellFormed i →
    decode (encode i) = i.spelling ∧ (i.spelling = i → decode (encode i) = i) ∧
    i.spelling.spelling = i.spelling

/-- The other direction: what the decoder reads from any port, encoded again, decodes to the same
instruction; and a request with BLEN at most BUF_MAX is well formed. -/
def Obligations.EncodeOfDecodeKeepsInstruction : Prop :=
  ∀ p : RequestPort, decode (encode (decode p)) = decode p ∧
    (p.blen ≤ Config.bufMax → WellFormed (decode p))

/-- The two spellings of a request have one meaning (R83; the constructors are the model's choice,
log 6). -/
def Obligations.SpellingsHaveOneMeaning : Prop :=
  ∀ (i : Instr) (s : State), exec i.spelling s = exec i s

/-- R34: fields the operation does not use, VALUE bytes at index VLEN and above and BUF bytes at index
BLEN and above change no result; nor, by 20_memory.md R54, do the BUF bytes outside the range of CHECKSUM
or of a DECODE whose BLEN is not 10. -/
def Obligations.UnreadPortFieldsChangeNothing : Prop :=
  ∀ (p q : RequestPort) (rest : List HostEvent) (s t : State), AgreeOnReadFields p q →
    s.pending = .request p :: rest → t = { s with pending := .request q :: rest } → step s = step t

/-! ## ENCODE -/

/-- R101: ENCODE builds the CommandFrame of a legal command and at most ten value bytes, refuses an
illegal command byte with BAD_COMMAND, and a longer value list with VALUE_OVERFLOW; it changes nothing
else. -/
def Obligations.EncodeOperation : Prop :=
  ∀ (cmd mode : Byte) (value : List Byte) (s : State),
    (cmd ∈ [0x02, 0x04, 0x05, 0x06, 0x07, 0x08] → value.length ≤ 10 →
      ∃ f, BuiltFrom f cmd mode value ∧ exec (.encode cmd mode value) s = .next (s.encoded f)) ∧
    (cmd ∉ [0x02, 0x04, 0x05, 0x06, 0x07, 0x08] →
      exec (.encode cmd mode value) s = .next (s.encodeFailed .badCommand)) ∧
    (cmd ∈ [0x02, 0x04, 0x05, 0x06, 0x07, 0x08] → 10 < value.length →
      exec (.encode cmd mode value) s = .next (s.encodeFailed .valueOverflow))

/-- R72: the six command rows build the frame of their own command byte, and ENCODE refuses every other
byte with BAD_COMMAND. -/
def Obligations.CommandRowsBuildTheirFrame : Prop :=
  ∀ (mode : Byte) (value : List Byte) (s : State),
    (∀ r ∈ [(Instr.communicationMode, (0x02 : Byte)), (Instr.query, 0x04), (Instr.deviceId, 0x05),
            (Instr.workMode, 0x06), (Instr.firmware, 0x07), (Instr.dutyCycle, 0x08)],
      (value.length ≤ 10 →
        ∃ f, BuiltFrom f r.2 mode value ∧ exec (r.1 mode value) s = .next (s.encoded f)) ∧
      (10 < value.length → exec (r.1 mode value) s = .next (s.encodeFailed .valueOverflow))) ∧
    (∀ cmd : Byte, cmd ∉ [0x02, 0x04, 0x05, 0x06, 0x07, 0x08] →
      exec (.encode cmd mode value) s = .next (s.encodeFailed .badCommand))

/-- The closed form of the command checksum, which 40_frame_codec.md derives in R102. -/
def Obligations.EncodedChecksumClosedForm : Prop :=
  ∀ (cmd mode : Byte) (value : List Byte) (s : State),
    cmd ∈ [0x02, 0x04, 0x05, 0x06, 0x07, 0x08] → value.length ≤ 10 →
    ∃ f, exec (.encode cmd mode value) s = .next (s.encoded f) ∧
      f[17] = BitVec.ofNat 8 (0xB2 + cmd.toNat + mode.toNat + (value.map BitVec.toNat).sum)

/-- The source's encode property, which 40_frame_codec.md derives in R103: CHECKSUM over [1, 17) of the
frame ENCODE built returns its byte 17. -/
def Obligations.ChecksumOfBuiltFrameIsItsByte : Prop :=
  ∀ (cmd mode : Byte) (value : List Byte) (s u : State),
    cmd ∈ [0x02, 0x04, 0x05, 0x06, 0x07, 0x08] → value.length ≤ 10 →
    ∃ f, exec (.encode cmd mode value) s = .next (s.encoded f) ∧
      exec (.checksum f.toList 1 17) u =
        .next { u with status := .ok, cause := .none, csvalid := true, csumOut := some f[17] }

/-- No argument of a command is dropped: equal frames come from equal commands and mode bytes, and from
equal value lists of one length; the value lists read the same with zeros after their end (R73). -/
def Obligations.FrameDeterminesItsArguments : Prop :=
  ∀ (cmd cmd' mode mode' : Byte) (value value' : List Byte) (s s' : State) (f : Vector Byte 19),
    exec (.encode cmd mode value) s = .next (s.encoded f) →
    exec (.encode cmd' mode' value') s' = .next (s'.encoded f) →
    cmd = cmd' ∧ mode = mode' ∧ (∀ i, value.getD i 0 = value'.getD i 0) ∧
    (value.length = value'.length → value = value')

/-! ## CHECKSUM -/

/-- R9: `sum8` is the natural sum reduced modulo 256, 0x00 on the empty range, and the same value comes
from 8-bit wrap-around addition of the bytes in any order. -/
def Obligations.SumIsWrapAroundAdditionInAnyOrder : Prop :=
  ∀ (b : List Byte) (lo hi : Nat), lo ≤ hi → hi ≤ b.length →
    (sum8 b lo hi).toNat = sumBytes b lo hi % 256 ∧ sum8 b lo lo = 0x00 ∧
    ∀ c : List Byte, c.Perm ((b.take hi).drop lo) → c.foldl (fun x y => x + y) 0 = sum8 b lo hi

/-- R105: CHECKSUM returns the sum of the range, and fails with BAD_RANGE on a range that is not inside
the buffer the port carries; it changes nothing else. -/
def Obligations.ChecksumOperation : Prop :=
  ∀ (b : List Byte) (lo hi : Nat) (s : State),
    (lo ≤ hi ∧ hi ≤ b.length ∧ hi ≤ Config.bufMax →
      exec (.checksum b lo hi) s = .next { s with
        status := .ok, cause := .none, csvalid := true,
        csumOut := some (BitVec.ofNat 8 (sumBytes b lo hi)) }) ∧
    (¬ (lo ≤ hi ∧ hi ≤ b.length ∧ hi ≤ Config.bufMax) →
      exec (.checksum b lo hi) s = .next { s with
        status := .badRange, cause := .none, csvalid := false, csumOut := none })

/-! ## DECODE -/

/-- R110 and R164: the checks in their order, the first that fails is reported; the writes of success
and of failure; nothing else changes. -/
def Obligations.DecodeOperation : Prop :=
  ∀ (b : List Byte) (s : State),
    exec (.decode b) s = .next (
      if b.length ≠ 10 then s.decodeFailed .frameTooShort
      else if b.getD 0 0 ≠ 0xAA then s.decodeFailed .badHeader
      else if BitVec.ofNat 8 (sumBytes b 2 8) ≠ b.getD 8 0 then s.decodeFailed .badChecksum
      else if b.getD 1 0 ≠ 0xC0 ∧ b.getD 1 0 ≠ 0xC5 then s.decodeFailed .unknownResponseId
      else if b.getD 9 0 ≠ 0xAB then s.decodeFailed .badTail
      else s.decoded (if b.getD 1 0 = 0xC0 then .active else .passive)
        #v[b.getD 2 0, b.getD 3 0, b.getD 4 0, b.getD 5 0, b.getD 6 0, b.getD 7 0])

/-- 30_encoding.md R80 and 40_frame_codec.md R111 at the step: a DECODE request whose BLEN is not 10 ends
with FRAME_TOO_SHORT, and a CHECKSUM request whose range is not inside the buffer with BAD_RANGE, each
with its response, whatever the bytes of BUF. -/
def Obligations.RejectedBuffersAreNotRead : Prop :=
  ∀ (s : State) (p : RequestPort) (rest : List HostEvent), s.pending = .request p :: rest →
    (p.op = 0x3 → p.blen ≠ 10 →
      step s = .next (State.respond (({ s with pending := rest } : State).decodeFailed .frameTooShort))) ∧
    (p.op = 0x2 → ¬ (p.lo ≤ p.hi ∧ p.hi ≤ p.blen ∧ p.hi ≤ Config.bufMax) →
      step s = .next (State.respond { s with
        pending := rest, status := .badRange, cause := .none, csvalid := false, csumOut := none }))

/-- R75 and R113: DECODE succeeds exactly on the frames of the layout, whatever their six data bytes,
and then holds those bytes and the kind of the responseId. -/
def Obligations.DecodeAcceptsExactlyTheLayout : Prop :=
  (∀ (d : Vector Byte 6) (s : State),
    exec (.decode (validFrame 0xC0 d)) s = .next (s.decoded .active d) ∧
    exec (.decode (validFrame 0xC5 d)) s = .next (s.decoded .passive d)) ∧
  (∀ (b : List Byte) (s t : State), exec (.decode b) s = .next t → t.status = .ok →
    ∃ d, b = validFrame 0xC0 d ∨ b = validFrame 0xC5 d)

/-- The response rows hold a frame with their responseId, and on any other bytes are the DECODE of those
bytes. That the rows are instructions is the model's choice (log 6). -/
def Obligations.ResponseRowsHoldTheirFrame : Prop :=
  (∀ (d : Vector Byte 6) (s : State),
    exec (.activeResponse 0xAA d (BitVec.ofNat 8 (d.toList.map BitVec.toNat).sum) 0xAB) s
      = .next (s.decoded .active d) ∧
    exec (.passiveResponse 0xAA d (BitVec.ofNat 8 (d.toList.map BitVec.toNat).sum) 0xAB) s
      = .next (s.decoded .passive d)) ∧
  (∀ (h c t : Byte) (d : Vector Byte 6) (s : State),
    exec (.activeResponse h d c t) s
      = exec (.decode [h, 0xC0, d[0], d[1], d[2], d[3], d[4], d[5], c, t]) s ∧
    exec (.passiveResponse h d c t) s
      = exec (.decode [h, 0xC5, d[0], d[1], d[2], d[3], d[4], d[5], c, t]) s)

/-- A command frame fed back is no response (95_test_vectors.md V61, E9): DECODE of any frame that
ENCODE built ends with FRAME_TOO_SHORT, and nothing is held. -/
def Obligations.CommandFrameIsNoResponse : Prop :=
  ∀ (cmd mode : Byte) (value : List Byte) (s u : State) (f : Vector Byte 19),
    exec (.encode cmd mode value) s = .next (s.encoded f) →
    exec (.decode f.toList) u = .next (u.decodeFailed .frameTooShort)

/-- R162: STATUS and CAUSE are the only record of a failure: two failures of one operation with the same
STATUS and CAUSE leave the same state, whatever the rejected operands. -/
def Obligations.FailureRecordsOnlyStatusAndCause : Prop :=
  ∀ (s t u : State) (i j : Instr), i.row = j.row →
    exec i s = .next t → exec j s = .next u →
    t.status ≠ .ok → t.status = u.status → t.cause = u.cause → t = u

/-! ## CLASSIFY -/

/-- R140: the three classes of a held frame and NO_VALID_FRAME; nothing else changes. -/
def Obligations.ClassifyOperation : Prop :=
  ∀ (e : Byte) (s : State),
    (s.rxvalid = false →
      exec (.classify e) s = .next { s with status := .noValidFrame, cause := .none, cls := .none }) ∧
    (s.rxvalid = true → s.rxKind = some .active →
      exec (.classify e) s = .next { s with status := .ok, cause := .none, cls := .activeReport }) ∧
    (∀ d : Vector Byte 6, s.rxvalid = true → s.rxKind = some .passive → s.rxData = some d →
      (d[0] = e →
        exec (.classify e) s = .next { s with status := .ok, cause := .none, cls := .passiveReply }) ∧
      (d[0] ≠ e →
        exec (.classify e) s = .next { s with status := .ok, cause := .none, cls := .stale }))

/-- R141, R142 and R143: on a held valid frame the outputs IS_ACTIVE and IS_PASSIVE_REPLY of the response
are the source's two predicates, and STALE is neither, with STATUS = OK; in every response they are the
comparisons of CLASS. -/
def Obligations.ClassifyOutputsAreThePredicates : Prop :=
  (∀ (e : Byte) (s : State) (k : RxKind) (d : Vector Byte 6),
    s.rxvalid = true → s.rxKind = some k → s.rxData = some d →
    ∃ t, exec (.classify e) s = .next t ∧ t.status = .ok ∧
      (t.response.isActive = true ↔ k = .active) ∧
      (t.response.isPassiveReply = true ↔ k = .passive ∧ d[0] = e) ∧
      (t.cls = .stale ↔ k = .passive ∧ d[0] ≠ e) ∧
      t.rxvalid = true ∧ t.rxKind = some k ∧ t.rxData = some d) ∧
  (∀ s : State, (s.response.isActive = true ↔ s.cls = .activeReport) ∧
    (s.response.isPassiveReply = true ↔ s.cls = .passiveReply))

/-- R145: CLASSIFY's result is a function of EXPECT, RXVALID, RX_KIND and RX_DATA[0] alone, and it
changes only STATUS, CAUSE and CLASS. -/
def Obligations.ClassifyReadsOnlyTheHeldFrame : Prop :=
  ∀ (e : Byte) (s t s' t' : State),
    s.rxvalid = t.rxvalid → s.rxKind = t.rxKind →
    s.rxData.map (fun d => d[0]) = t.rxData.map (fun d => d[0]) →
    exec (.classify e) s = .next s' → exec (.classify e) t = .next t' →
    s'.status = t'.status ∧ s'.cause = t'.cause ∧ s'.cls = t'.cls ∧
    s = { s' with status := s.status, cause := s.cause, cls := s.cls }

/-- The source's property that the predicates exclude each other, which 41_response_classifier.md derives
in R144: on one held frame no two EXPECT values give both. -/
def Obligations.ActiveAndPassiveExcludeEachOther : Prop :=
  (∀ (e e' : Byte) (s t t' : State), exec (.classify e) s = .next t → exec (.classify e') s = .next t' →
    ¬ (t.response.isActive = true ∧ t'.response.isPassiveReply = true)) ∧
  (∀ s : State, ¬ (s.response.isActive = true ∧ s.response.isPassiveReply = true))

/-! ## Reserved OP values -/

/-- R167: a request with a reserved OP writes STATUS = BAD_OP and CAUSE = NONE and no other register, and
none of its other fields is read. -/
def Obligations.ReservedOpReportsBadOp : Prop :=
  (∀ s : State, ∀ i ∈ [Instr.reservedZero, Instr.reservedFive],
    exec i s = .next { s with status := .badOp, cause := .none }) ∧
  (∀ (s : State) (low : BitVec 1),
    exec (.reservedSixSeven low) s = .next { s with status := .badOp, cause := .none }) ∧
  (∀ (s : State) (low : BitVec 3),
    exec (.reservedHigh low) s = .next { s with status := .badOp, cause := .none }) ∧
  (∀ (s : State) (p : RequestPort) (rest : List HostEvent), s.pending = .request p :: rest →
    p.op ∈ [0x0, 0x5, 0x6, 0x7, 0x8, 0x9, 0xA, 0xB, 0xC, 0xD, 0xE, 0xF] →
    step s = .next (State.respond { s with status := .badOp, cause := .none, pending := rest }))

/-! ## Whole-machine rules -/

/-- R37: every operation writes only the registers of its row of the footprint table. -/
def Obligations.OperationsKeepTheirFootprint : Prop :=
  ∀ (i : Instr) (s t : State), exec i s = .next t →
    (i.row ≠ rowEncode → SameTx s t) ∧
    (i.row ≠ rowDecode → SameRx s t) ∧
    (i.row ≠ rowDecode → i.row ≠ rowClassify → s.cls = t.cls) ∧
    (i.row ≠ rowChecksum → SameCsum s t) ∧
    SamePorts s t

/-- The "raised by" column of 60_exceptions.md R160: each operation ends only with its own codes, and no
operation ends with a reserved code or with NONE. -/
def Obligations.OperationsRaiseOnlyTheirCodes : Prop :=
  ∀ (i : Instr) (s t : State), exec i s = .next t →
    (i.row = rowEncode → t.status.code ∈ [0x0, 0x1]) ∧
    (i.row = rowDecode → t.status.code ∈ [0x0, 0x2, 0x3, 0x4, 0x5, 0x6]) ∧
    (i.row = rowChecksum → t.status.code ∈ [0x0, 0x7]) ∧
    (i.row = rowClassify → t.status.code ∈ [0x0, 0x8]) ∧
    (i.row ∈ [rowReservedZero, rowReservedFive, rowReservedSixSeven, rowReservedHigh] →
      t.status.code = 0x9) ∧
    (t.cause.code ≠ 0 ↔ t.status.code = 0x1) ∧ t.cause.code ≠ 3

/-- The response port in every state: each of its ten register lines carries its own register (10_state.md
R35), STATUS, CAUSE, RX_KIND and CLASS as the numeric codes of 60_exceptions.md R160 and 10_state.md R25,
R27, R28; and the source's two error classes (60_exceptions.md R163). -/
def Obligations.ResponsePortCodes : Prop :=
  [Status.ok, .invalidArgument, .frameTooShort, .badHeader, .badChecksum, .unknownResponseId, .badTail,
   .badRange, .noValidFrame, .badOp, .none].map Status.code
    = [0x0, 0x1, 0x2, 0x3, 0x4, 0x5, 0x6, 0x7, 0x8, 0x9, 0xF] ∧
  [Cause.none, .badCommand, .valueOverflow].map Cause.code = [0, 1, 2] ∧
  [RxKind.active, .passive].map RxKind.code = [0, 1] ∧
  [FrameClass.none, .activeReport, .passiveReply, .stale].map FrameClass.code = [0, 1, 2, 3] ∧
  (∀ st : Status, (st.isEncodeError = true ↔ st.code = 0x1) ∧
    (st.isDecodeError = true ↔ st.code ∈ [0x2, 0x3, 0x4, 0x5, 0x6])) ∧
  (∀ s : State, s.response.status = s.status.code ∧ s.response.cause = s.cause.code ∧
    s.response.txvalid = s.txvalid ∧ s.response.txbuf = s.txbuf ∧
    s.response.rxvalid = s.rxvalid ∧ s.response.rxKind = s.rxKind.map RxKind.code ∧
    s.response.rxData = s.rxData ∧ s.response.cls = s.cls.code ∧
    s.response.csvalid = s.csvalid ∧ s.response.csumOut = s.csumOut)

/-- R56, second half: ENCODE, CHECKSUM and DECODE depend on the request alone: from any two states the
same request gives the same STATUS, CAUSE and data. -/
def Obligations.CodecDependsOnTheRequestAlone : Prop :=
  ∀ (i : Instr) (s t s' t' : State), i.row ≠ rowClassify →
    exec i s = .next s' → exec i t = .next t' →
    s'.status = t'.status ∧ s'.cause = t'.cause ∧
    (i.row = rowEncode → SameTx s' t') ∧ (i.row = rowChecksum → SameCsum s' t') ∧
    (i.row = rowDecode → SameRx s' t' ∧ s'.cls = .none ∧ t'.cls = .none)

/-- The held response frame changes only by RST or a DECODE request (10_state.md R27). -/
def Obligations.HeldFrameChangesOnlyByDecodeOrReset : Prop :=
  ∀ s t : State, step s = .next t → ¬ SameRx s t →
    (∃ q rest, s.pending = .rst q :: rest) ∨ (∃ p rest, s.pending = .request p :: rest ∧ p.op = 0x3)

/-- R198: CLASS belongs to the held frame. It changes only by RST, DECODE or CLASSIFY; DECODE writes NONE
whatever its outcome; ENCODE changes neither CLASS nor the held frame. -/
def Obligations.ClassificationBelongsToHeldFrame : Prop :=
  ∀ s t : State, step s = .next t →
    (s.cls ≠ t.cls → (∃ q rest, s.pending = .rst q :: rest) ∨
      (∃ p rest, s.pending = .request p :: rest ∧ (p.op = 0x3 ∨ p.op = 0x4))) ∧
    (∀ p rest, s.pending = .request p :: rest → p.op = 0x3 → t.cls = .none) ∧
    (∀ p rest, s.pending = .request p :: rest → p.op = 0x1 → SameRx s t ∧ s.cls = t.cls)

/-! ## The response port and the host's reads -/

/-- R31: a read of a data register whose valid bit is 0 gives no value and is a fault of the reader. -/
def Obligations.ReadOfInvalidRegisterFaults : Prop :=
  ∀ s : State,
    (s.txvalid = false → readReg .txbuf s = .fault (.noValue .txbuf)) ∧
    (s.rxvalid = false → readReg .rxKind s = .fault (.noValue .rxKind) ∧
      readReg .rxData s = .fault (.noValue .rxData)) ∧
    (s.csvalid = false → readReg .csumOut s = .fault (.noValue .csumOut))

/-- What a read gives (10_state.md R30, R35), register by register: the code of STATUS, CAUSE and CLASS and
the valid bits in every state; a data register's content at the width of R23 where its valid bit is 1. -/
def Obligations.ReadGivesTheRegisterContent : Prop :=
  ∀ s : State,
    readReg .status s = .next (.status s.status.code) ∧
    readReg .cause s = .next (.cause s.cause.code) ∧
    readReg .txvalid s = .next (.valid s.txvalid) ∧
    readReg .rxvalid s = .next (.valid s.rxvalid) ∧
    readReg .cls s = .next (.cls s.cls.code) ∧
    readReg .csvalid s = .next (.valid s.csvalid) ∧
    (∀ f, s.txvalid = true → s.txbuf = some f → readReg .txbuf s = .next (.txbuf f)) ∧
    (∀ k, s.rxvalid = true → s.rxKind = some k → readReg .rxKind s = .next (.rxKind k.code)) ∧
    (∀ d, s.rxvalid = true → s.rxData = some d → readReg .rxData s = .next (.rxData d)) ∧
    (∀ v, s.csvalid = true → s.csumOut = some v → readReg .csumOut s = .next (.csumOut v))

/-- 20_memory.md R56, first half: a read that gives a value changes no register, and may be repeated with
the same value, which is the register's line of the response port (10_state.md R35); a read that is a
fault stops the step. That a read is an event is the model's choice (log 12). -/
def Obligations.ReadsHaveNoSideEffect : Prop :=
  (∀ (s : State) (r : ResultReg) (rest : List HostEvent), s.Inv → s.pending = .read r :: rest →
    EventReady s (.read r) →
    ∃ t v, step s = .next t ∧ SameRegs s t ∧ t.responses = s.responses ∧ t.pending = rest ∧
      readReg r s = .next v ∧ readReg r t = .next v ∧ s.response.line r = some v) ∧
  (∀ (s : State) (r : ResultReg) (rest : List HostEvent) (f : Fault), s.pending = .read r :: rest →
    readReg r s = .fault f → step s = .fault f)

/-- R42: every request completes with a response, whatever its field values, in every state that meets
the invariant. -/
def Obligations.EveryRequestCompletesWithAResponse : Prop :=
  ∀ (s : State) (p : RequestPort) (rest : List HostEvent), s.Inv → s.pending = .request p :: rest →
    ∃ t, step s = .next t ∧ t.pending = rest ∧ t.responses = s.responses ++ [t.response] ∧
      t.status ≠ .none

/-- R35 over whole runs: from every state that meets the invariant, any list of requests and resets is
performed to its end, and draws exactly one response for each request and none for a reset; the responses
stand in request order: after the first k events exactly those of their requests have been produced, and
they stay. The two lists are the model's choice (log 1, log 2). -/
def Obligations.RunAnswersEachRequestOnce : Prop :=
  ∀ (evs : List HostEvent) (s : State), s.Inv → s.pending = evs →
    (∀ e ∈ evs, (∃ q, e = .rst q) ∨ (∃ p, e = .request p)) →
    ∃ t, Host.Core.run Sys2Proof.core evs.length s = .next t ∧ t.Inv ∧ t.pending = [] ∧
      s.responses <+: t.responses ∧ t.responses.length = s.responses.length + requestCount evs ∧
      ∀ k, k ≤ evs.length → ∃ u, Host.Core.run Sys2Proof.core k s = .next u ∧
        u.responses <+: t.responses ∧
        u.responses.length = s.responses.length + requestCount (evs.take k)

/-- No hidden state (R32) over whole runs: two states with the same result registers and the same events
to come run alike, whatever happened before; in particular the responses already produced are never
read. -/
def Obligations.HistoryNeverMatters : Prop :=
  ∀ (k : Nat) (s t : State), SameRegs s t → s.pending = t.pending →
    (∃ s' t', Host.Core.run Sys2Proof.core k s = .next s' ∧ Host.Core.run Sys2Proof.core k t = .next t' ∧
      SameRegs s' t' ∧ s'.pending = t'.pending) ∨
    (∃ f, Host.Core.run Sys2Proof.core k s = .fault f ∧ Host.Core.run Sys2Proof.core k t = .fault f) ∨
    (∃ f, Host.Core.run Sys2Proof.core k s = .refused f ∧ Host.Core.run Sys2Proof.core k t = .refused f)
end

