-- ==== Sys2Proof/Laws/Decode.lean ====
section
/-! SUPPORT. The pieces of the decoder and the encoder: buffers, value lists and response bytes. -/

namespace Sys2Proof

theorem valueFits_iff {value : List Byte} : valueFits value = true ↔ value.length ≤ Config.valuePort := by
  simp [valueFits]

theorem bufFits_iff {buf : List Byte} : bufFits buf = true ↔ buf.length ≤ Config.bufMax := by
  simp [bufFits]

@[simp] theorem responseBytes_length (head id : Byte) (data : Vector Byte 6) (csum tail : Byte) :
    (responseBytes head id data csum tail).length = responseLength := rfl

/-- The data bytes of a response layout are its data field (30_encoding.md R75). -/
@[simp] theorem responseData_responseBytes (head id : Byte) (data : Vector Byte 6) (csum tail : Byte) :
    responseData (responseBytes head id data csum tail) = data := by
  apply Vector.ext
  intro i hi
  have : i = 0 ∨ i = 1 ∨ i = 2 ∨ i = 3 ∨ i = 4 ∨ i = 5 := by omega
  rcases this with rfl | rfl | rfl | rfl | rfl | rfl <;> rfl

/-- A buffer of ten bytes is a response layout of its own bytes. -/
theorem eq_responseBytes_of_length {b : List Byte} (h : b.length = responseLength) :
    b = responseBytes (b.getD 0 0) (b.getD 1 0) (responseData b) (b.getD 8 0) (b.getD 9 0) := by
  match b, h with
  | [_, _, _, _, _, _, _, _, _, _], _ => rfl

/-- Of a value list the port carries, the first lines are the list. -/
theorem valueLines_take {value : List Byte} (h : valueFits value = true) :
    (valueLines value).toList.take value.length = value := by
  have h' : value.length ≤ 15 := valueFits_iff.mp h
  apply List.ext_getElem
  · simp; omega
  · intro i h₁ h₂
    have hi : i < 15 := by omega
    simp only [List.getElem_take, valueLines, Vector.getElem_toList]
    rw [show value[i] = value.getD i 0 by simp [List.getD, h₂]]
    interval_cases i <;> rfl

/-! ## The operation map -/

@[simp] theorem rowEncode_takes (op : BitVec 4) : rowEncode.takes op = true ↔ op = 0x1 := by
  revert op; decide
@[simp] theorem rowChecksum_takes (op : BitVec 4) : rowChecksum.takes op = true ↔ op = 0x2 := by
  revert op; decide
@[simp] theorem rowDecode_takes (op : BitVec 4) : rowDecode.takes op = true ↔ op = 0x3 := by
  revert op; decide
@[simp] theorem rowClassify_takes (op : BitVec 4) : rowClassify.takes op = true ↔ op = 0x4 := by
  revert op; decide
@[simp] theorem rowReservedZero_takes (op : BitVec 4) : rowReservedZero.takes op = true ↔ op = 0x0 := by
  revert op; decide
@[simp] theorem rowReservedFive_takes (op : BitVec 4) : rowReservedFive.takes op = true ↔ op = 0x5 := by
  revert op; decide

theorem row_encodeInstr (cmd mode : Byte) (value : List Byte) :
    (encodeInstr cmd mode value).row = rowEncode := by
  unfold encodeInstr; split_ifs <;> rfl

theorem row_decodeInstr (b : List Byte) : (decodeInstr b).row = rowDecode := by
  unfold decodeInstr; split_ifs <;> rfl

variable {p : RequestPort}

theorem decode_of_op_encode (h : p.op = 0x1) :
    decode p = encodeInstr p.cmd p.mode p.valueBytes := by simp [decode, h]

theorem decode_of_op_checksum (h : p.op = 0x2) : decode p = .checksum p.buf p.lo p.hi := by
  simp [decode, h]

theorem decode_of_op_decode (h : p.op = 0x3) : decode p = decodeInstr p.buf := by simp [decode, h]

theorem decode_of_op_classify (h : p.op = 0x4) : decode p = .classify p.expect := by simp [decode, h]

theorem valueBytes_length_le : p.valueBytes.length ≤ Config.valuePort := by
  simp [RequestPort.valueBytes, Config.valuePort]

/-- A buffer whose length is not ten is no response row's (40_frame_codec.md R111). -/
theorem decodeInstr_of_length_ne {b : List Byte} (h : b.length ≠ responseLength) :
    decodeInstr b = .decode b := by simp [decodeInstr, h]

/-- Everything the decoder can give, by the OP of the port. -/
theorem decode_cases (p : RequestPort) :
    (p.op = 0x1 ∧ decode p = encodeInstr p.cmd p.mode p.valueBytes) ∨
    (p.op = 0x2 ∧ decode p = .checksum p.buf p.lo p.hi) ∨
    (p.op = 0x3 ∧ decode p = decodeInstr p.buf) ∨
    (p.op = 0x4 ∧ decode p = .classify p.expect) ∨
    (p.op = 0x0 ∧ decode p = .reservedZero) ∨
    (p.op = 0x5 ∧ decode p = .reservedFive) ∨
    (p.op ∈ [0x6, 0x7] ∧ decode p = .reservedSixSeven (p.op.extractLsb' 0 1)) ∨
    (p.op ∈ [0x8, 0x9, 0xA, 0xB, 0xC, 0xD, 0xE, 0xF] ∧
      decode p = .reservedHigh (p.op.extractLsb' 0 3)) := by
  unfold decode
  generalize p.op = op
  have : op.toNat < 16 := op.isLt
  obtain ⟨n, hn⟩ : ∃ n, op.toNat = n := ⟨_, rfl⟩
  obtain rfl : op = BitVec.ofNat 4 n := by rw [← hn]; simp
  rw [hn] at this
  interval_cases n <;>
    simp [rowEncode, rowChecksum, rowDecode, rowClassify, rowReservedZero, rowReservedFive,
      rowReservedSixSeven, OpRow.takes]

/-- The decoded instruction is of the row whose OP the port carries (30_encoding.md R78, R79). -/
theorem decode_row_takes : (decode p).row.takes p.op = true := by
  rcases decode_cases p with ⟨h, hd⟩ | ⟨h, hd⟩ | ⟨h, hd⟩ | ⟨h, hd⟩ | ⟨h, hd⟩ | ⟨h, hd⟩ | ⟨h, hd⟩ | ⟨h, hd⟩ <;>
    rw [hd]
  · simp [row_encodeInstr, h]
  · simp [Instr.row, h]
  · simp [row_decodeInstr, h]
  · simp [Instr.row, h]
  · simp [Instr.row, h]
  · simp [Instr.row, h]
  · revert h; generalize p.op = op; revert op; decide
  · revert h; generalize p.op = op; revert op; decide

end Sys2Proof
end

