-- ==== Sys2Proof/Laws/State.lean ====
section
/-! SUPPORT. What each register update of Machine/Ops.lean leaves in each field of the state. -/

namespace Sys2Proof.Machine

variable (s : State)

/-! ## finish -/

@[simp] theorem State.finish_status : (s.finish).status = .ok := rfl
@[simp] theorem State.finish_cause : (s.finish).cause = .none := rfl
@[simp] theorem State.finish_txvalid : (s.finish).txvalid = s.txvalid := rfl
@[simp] theorem State.finish_txbuf : (s.finish).txbuf = s.txbuf := rfl
@[simp] theorem State.finish_rxvalid : (s.finish).rxvalid = s.rxvalid := rfl
@[simp] theorem State.finish_rxKind : (s.finish).rxKind = s.rxKind := rfl
@[simp] theorem State.finish_rxData : (s.finish).rxData = s.rxData := rfl
@[simp] theorem State.finish_cls : (s.finish).cls = s.cls := rfl
@[simp] theorem State.finish_csvalid : (s.finish).csvalid = s.csvalid := rfl
@[simp] theorem State.finish_csumOut : (s.finish).csumOut = s.csumOut := rfl
@[simp] theorem State.finish_pending : (s.finish).pending = s.pending := rfl
@[simp] theorem State.finish_responses : (s.finish).responses = s.responses := rfl

/-! ## fail -/

@[simp] theorem State.fail_status (code : Status) (cause : Cause) : (s.fail code cause).status = code := rfl
@[simp] theorem State.fail_cause (code : Status) (cause : Cause) : (s.fail code cause).cause = cause := rfl
@[simp] theorem State.fail_txvalid (code : Status) (cause : Cause) : (s.fail code cause).txvalid = s.txvalid := rfl
@[simp] theorem State.fail_txbuf (code : Status) (cause : Cause) : (s.fail code cause).txbuf = s.txbuf := rfl
@[simp] theorem State.fail_rxvalid (code : Status) (cause : Cause) : (s.fail code cause).rxvalid = s.rxvalid := rfl
@[simp] theorem State.fail_rxKind (code : Status) (cause : Cause) : (s.fail code cause).rxKind = s.rxKind := rfl
@[simp] theorem State.fail_rxData (code : Status) (cause : Cause) : (s.fail code cause).rxData = s.rxData := rfl
@[simp] theorem State.fail_cls (code : Status) (cause : Cause) : (s.fail code cause).cls = s.cls := rfl
@[simp] theorem State.fail_csvalid (code : Status) (cause : Cause) : (s.fail code cause).csvalid = s.csvalid := rfl
@[simp] theorem State.fail_csumOut (code : Status) (cause : Cause) : (s.fail code cause).csumOut = s.csumOut := rfl
@[simp] theorem State.fail_pending (code : Status) (cause : Cause) : (s.fail code cause).pending = s.pending := rfl
@[simp] theorem State.fail_responses (code : Status) (cause : Cause) : (s.fail code cause).responses = s.responses := rfl

/-! ## holdTx -/

@[simp] theorem State.holdTx_status (f : Vector Byte 19) : (s.holdTx f).status = s.status := rfl
@[simp] theorem State.holdTx_cause (f : Vector Byte 19) : (s.holdTx f).cause = s.cause := rfl
@[simp] theorem State.holdTx_txvalid (f : Vector Byte 19) : (s.holdTx f).txvalid = true := rfl
@[simp] theorem State.holdTx_txbuf (f : Vector Byte 19) : (s.holdTx f).txbuf = some f := rfl
@[simp] theorem State.holdTx_rxvalid (f : Vector Byte 19) : (s.holdTx f).rxvalid = s.rxvalid := rfl
@[simp] theorem State.holdTx_rxKind (f : Vector Byte 19) : (s.holdTx f).rxKind = s.rxKind := rfl
@[simp] theorem State.holdTx_rxData (f : Vector Byte 19) : (s.holdTx f).rxData = s.rxData := rfl
@[simp] theorem State.holdTx_cls (f : Vector Byte 19) : (s.holdTx f).cls = s.cls := rfl
@[simp] theorem State.holdTx_csvalid (f : Vector Byte 19) : (s.holdTx f).csvalid = s.csvalid := rfl
@[simp] theorem State.holdTx_csumOut (f : Vector Byte 19) : (s.holdTx f).csumOut = s.csumOut := rfl
@[simp] theorem State.holdTx_pending (f : Vector Byte 19) : (s.holdTx f).pending = s.pending := rfl
@[simp] theorem State.holdTx_responses (f : Vector Byte 19) : (s.holdTx f).responses = s.responses := rfl

/-! ## clearTx -/

@[simp] theorem State.clearTx_status : (s.clearTx).status = s.status := rfl
@[simp] theorem State.clearTx_cause : (s.clearTx).cause = s.cause := rfl
@[simp] theorem State.clearTx_txvalid : (s.clearTx).txvalid = false := rfl
@[simp] theorem State.clearTx_txbuf : (s.clearTx).txbuf = none := rfl
@[simp] theorem State.clearTx_rxvalid : (s.clearTx).rxvalid = s.rxvalid := rfl
@[simp] theorem State.clearTx_rxKind : (s.clearTx).rxKind = s.rxKind := rfl
@[simp] theorem State.clearTx_rxData : (s.clearTx).rxData = s.rxData := rfl
@[simp] theorem State.clearTx_cls : (s.clearTx).cls = s.cls := rfl
@[simp] theorem State.clearTx_csvalid : (s.clearTx).csvalid = s.csvalid := rfl
@[simp] theorem State.clearTx_csumOut : (s.clearTx).csumOut = s.csumOut := rfl
@[simp] theorem State.clearTx_pending : (s.clearTx).pending = s.pending := rfl
@[simp] theorem State.clearTx_responses : (s.clearTx).responses = s.responses := rfl

/-! ## holdRx -/

@[simp] theorem State.holdRx_status (k : RxKind) (d : Vector Byte 6) : (s.holdRx k d).status = s.status := rfl
@[simp] theorem State.holdRx_cause (k : RxKind) (d : Vector Byte 6) : (s.holdRx k d).cause = s.cause := rfl
@[simp] theorem State.holdRx_txvalid (k : RxKind) (d : Vector Byte 6) : (s.holdRx k d).txvalid = s.txvalid := rfl
@[simp] theorem State.holdRx_txbuf (k : RxKind) (d : Vector Byte 6) : (s.holdRx k d).txbuf = s.txbuf := rfl
@[simp] theorem State.holdRx_rxvalid (k : RxKind) (d : Vector Byte 6) : (s.holdRx k d).rxvalid = true := rfl
@[simp] theorem State.holdRx_rxKind (k : RxKind) (d : Vector Byte 6) : (s.holdRx k d).rxKind = some k := rfl
@[simp] theorem State.holdRx_rxData (k : RxKind) (d : Vector Byte 6) : (s.holdRx k d).rxData = some d := rfl
@[simp] theorem State.holdRx_cls (k : RxKind) (d : Vector Byte 6) : (s.holdRx k d).cls = s.cls := rfl
@[simp] theorem State.holdRx_csvalid (k : RxKind) (d : Vector Byte 6) : (s.holdRx k d).csvalid = s.csvalid := rfl
@[simp] theorem State.holdRx_csumOut (k : RxKind) (d : Vector Byte 6) : (s.holdRx k d).csumOut = s.csumOut := rfl
@[simp] theorem State.holdRx_pending (k : RxKind) (d : Vector Byte 6) : (s.holdRx k d).pending = s.pending := rfl
@[simp] theorem State.holdRx_responses (k : RxKind) (d : Vector Byte 6) : (s.holdRx k d).responses = s.responses := rfl

/-! ## clearRx -/

@[simp] theorem State.clearRx_status : (s.clearRx).status = s.status := rfl
@[simp] theorem State.clearRx_cause : (s.clearRx).cause = s.cause := rfl
@[simp] theorem State.clearRx_txvalid : (s.clearRx).txvalid = s.txvalid := rfl
@[simp] theorem State.clearRx_txbuf : (s.clearRx).txbuf = s.txbuf := rfl
@[simp] theorem State.clearRx_rxvalid : (s.clearRx).rxvalid = false := rfl
@[simp] theorem State.clearRx_rxKind : (s.clearRx).rxKind = none := rfl
@[simp] theorem State.clearRx_rxData : (s.clearRx).rxData = none := rfl
@[simp] theorem State.clearRx_cls : (s.clearRx).cls = s.cls := rfl
@[simp] theorem State.clearRx_csvalid : (s.clearRx).csvalid = s.csvalid := rfl
@[simp] theorem State.clearRx_csumOut : (s.clearRx).csumOut = s.csumOut := rfl
@[simp] theorem State.clearRx_pending : (s.clearRx).pending = s.pending := rfl
@[simp] theorem State.clearRx_responses : (s.clearRx).responses = s.responses := rfl

/-! ## setClass -/

@[simp] theorem State.setClass_status (c : FrameClass) : (s.setClass c).status = s.status := rfl
@[simp] theorem State.setClass_cause (c : FrameClass) : (s.setClass c).cause = s.cause := rfl
@[simp] theorem State.setClass_txvalid (c : FrameClass) : (s.setClass c).txvalid = s.txvalid := rfl
@[simp] theorem State.setClass_txbuf (c : FrameClass) : (s.setClass c).txbuf = s.txbuf := rfl
@[simp] theorem State.setClass_rxvalid (c : FrameClass) : (s.setClass c).rxvalid = s.rxvalid := rfl
@[simp] theorem State.setClass_rxKind (c : FrameClass) : (s.setClass c).rxKind = s.rxKind := rfl
@[simp] theorem State.setClass_rxData (c : FrameClass) : (s.setClass c).rxData = s.rxData := rfl
@[simp] theorem State.setClass_cls (c : FrameClass) : (s.setClass c).cls = c := rfl
@[simp] theorem State.setClass_csvalid (c : FrameClass) : (s.setClass c).csvalid = s.csvalid := rfl
@[simp] theorem State.setClass_csumOut (c : FrameClass) : (s.setClass c).csumOut = s.csumOut := rfl
@[simp] theorem State.setClass_pending (c : FrameClass) : (s.setClass c).pending = s.pending := rfl
@[simp] theorem State.setClass_responses (c : FrameClass) : (s.setClass c).responses = s.responses := rfl

/-! ## holdCsum -/

@[simp] theorem State.holdCsum_status (v : Byte) : (s.holdCsum v).status = s.status := rfl
@[simp] theorem State.holdCsum_cause (v : Byte) : (s.holdCsum v).cause = s.cause := rfl
@[simp] theorem State.holdCsum_txvalid (v : Byte) : (s.holdCsum v).txvalid = s.txvalid := rfl
@[simp] theorem State.holdCsum_txbuf (v : Byte) : (s.holdCsum v).txbuf = s.txbuf := rfl
@[simp] theorem State.holdCsum_rxvalid (v : Byte) : (s.holdCsum v).rxvalid = s.rxvalid := rfl
@[simp] theorem State.holdCsum_rxKind (v : Byte) : (s.holdCsum v).rxKind = s.rxKind := rfl
@[simp] theorem State.holdCsum_rxData (v : Byte) : (s.holdCsum v).rxData = s.rxData := rfl
@[simp] theorem State.holdCsum_cls (v : Byte) : (s.holdCsum v).cls = s.cls := rfl
@[simp] theorem State.holdCsum_csvalid (v : Byte) : (s.holdCsum v).csvalid = true := rfl
@[simp] theorem State.holdCsum_csumOut (v : Byte) : (s.holdCsum v).csumOut = some v := rfl
@[simp] theorem State.holdCsum_pending (v : Byte) : (s.holdCsum v).pending = s.pending := rfl
@[simp] theorem State.holdCsum_responses (v : Byte) : (s.holdCsum v).responses = s.responses := rfl

/-! ## clearCsum -/

@[simp] theorem State.clearCsum_status : (s.clearCsum).status = s.status := rfl
@[simp] theorem State.clearCsum_cause : (s.clearCsum).cause = s.cause := rfl
@[simp] theorem State.clearCsum_txvalid : (s.clearCsum).txvalid = s.txvalid := rfl
@[simp] theorem State.clearCsum_txbuf : (s.clearCsum).txbuf = s.txbuf := rfl
@[simp] theorem State.clearCsum_rxvalid : (s.clearCsum).rxvalid = s.rxvalid := rfl
@[simp] theorem State.clearCsum_rxKind : (s.clearCsum).rxKind = s.rxKind := rfl
@[simp] theorem State.clearCsum_rxData : (s.clearCsum).rxData = s.rxData := rfl
@[simp] theorem State.clearCsum_cls : (s.clearCsum).cls = s.cls := rfl
@[simp] theorem State.clearCsum_csvalid : (s.clearCsum).csvalid = false := rfl
@[simp] theorem State.clearCsum_csumOut : (s.clearCsum).csumOut = none := rfl
@[simp] theorem State.clearCsum_pending : (s.clearCsum).pending = s.pending := rfl
@[simp] theorem State.clearCsum_responses : (s.clearCsum).responses = s.responses := rfl

/-! ## respond -/

@[simp] theorem State.respond_status : (s.respond).status = s.status := rfl
@[simp] theorem State.respond_cause : (s.respond).cause = s.cause := rfl
@[simp] theorem State.respond_txvalid : (s.respond).txvalid = s.txvalid := rfl
@[simp] theorem State.respond_txbuf : (s.respond).txbuf = s.txbuf := rfl
@[simp] theorem State.respond_rxvalid : (s.respond).rxvalid = s.rxvalid := rfl
@[simp] theorem State.respond_rxKind : (s.respond).rxKind = s.rxKind := rfl
@[simp] theorem State.respond_rxData : (s.respond).rxData = s.rxData := rfl
@[simp] theorem State.respond_cls : (s.respond).cls = s.cls := rfl
@[simp] theorem State.respond_csvalid : (s.respond).csvalid = s.csvalid := rfl
@[simp] theorem State.respond_csumOut : (s.respond).csumOut = s.csumOut := rfl
@[simp] theorem State.respond_pending : (s.respond).pending = s.pending := rfl
@[simp] theorem State.respond_responses : (s.respond).responses = s.responses ++ [s.response] := rfl

/-! ## resetEvent -/

@[simp] theorem State.resetEvent_status : (s.resetEvent).status = .none := rfl
@[simp] theorem State.resetEvent_cause : (s.resetEvent).cause = .none := rfl
@[simp] theorem State.resetEvent_txvalid : (s.resetEvent).txvalid = false := rfl
@[simp] theorem State.resetEvent_txbuf : (s.resetEvent).txbuf = none := rfl
@[simp] theorem State.resetEvent_rxvalid : (s.resetEvent).rxvalid = false := rfl
@[simp] theorem State.resetEvent_rxKind : (s.resetEvent).rxKind = none := rfl
@[simp] theorem State.resetEvent_rxData : (s.resetEvent).rxData = none := rfl
@[simp] theorem State.resetEvent_cls : (s.resetEvent).cls = .none := rfl
@[simp] theorem State.resetEvent_csvalid : (s.resetEvent).csvalid = false := rfl
@[simp] theorem State.resetEvent_csumOut : (s.resetEvent).csumOut = none := rfl
@[simp] theorem State.resetEvent_pending : (s.resetEvent).pending = s.pending := rfl
@[simp] theorem State.resetEvent_responses : (s.resetEvent).responses = s.responses := rfl

end Sys2Proof.Machine
end

