-- ==== Sys2Proof/Laws/Ops.lean ====
section
/-! SUPPORT. What each shared operation can do, said once: the two ways ENCODE, CHECKSUM and DECODE
end, and the inversion of `exec`, of a request and of a read. -/

namespace Sys2Proof.Machine

/-! ## Checks -/

theorem encodeError_eq_none {cmd : Byte} {value : List Byte} :
    encodeError cmd value = none ↔ cmd ∈ commandOpcodes ∧ value.length ≤ valueMax := by
  by_cases h₁ : cmd ∈ commandOpcodes <;> simp [encodeError, h₁]

theorem encodeError_badCommand {cmd : Byte} {value : List Byte} (h : cmd ∉ commandOpcodes) :
    encodeError cmd value = some .badCommand := by simp [encodeError, h]

theorem encodeError_overflow {cmd : Byte} {value : List Byte} (h : cmd ∈ commandOpcodes)
    (hv : valueMax < value.length) : encodeError cmd value = some .valueOverflow := by
  simp [encodeError, h, hv]

/-- A failed ENCODE always names a cause. -/
theorem encodeError_ne_none {cmd : Byte} {value : List Byte} {c : Cause}
    (h : encodeError cmd value = some c) : c ≠ .none := by
  unfold encodeError at h
  split_ifs at h <;> simp_all <;> subst h <;> simp

theorem rangeOk_iff {b : List Byte} {lo hi : Nat} :
    rangeOk b lo hi = true ↔ lo ≤ hi ∧ hi ≤ b.length ∧ hi ≤ Config.bufMax := by
  simp [rangeOk, and_assoc]

/-- Every command frame fits the request port's buffer. -/
theorem nineteen_le_bufMax : 19 ≤ Config.bufMax := by simp [Config.bufMax]

theorem responseError_eq_none {b : List Byte} :
    responseError b = none ↔ b.length = responseLength ∧ byteAt b 0 = frameHead ∧
      sum8 b responseSumFrom responseSumEnd = byteAt b 8 ∧ byteAt b 1 ∈ responseIds ∧
      byteAt b 9 = frameTail := by
  unfold responseError
  split_ifs <;> simp_all

/-- A buffer whose length is not ten is too short, whatever its bytes (40_frame_codec.md R111). -/
theorem responseError_of_length_ne {b : List Byte} (h : b.length ≠ responseLength) :
    responseError b = some .frameTooShort := by simp [responseError, h]

/-- The statuses DECODE can fail with (60_exceptions.md R160). -/
theorem responseError_isDecodeError {b : List Byte} {c : Status} (h : responseError b = some c) :
    c.isDecodeError = true := by
  unfold responseError at h
  split_ifs at h <;> cases h <;> rfl

/-! ## The operations -/

theorem encodeOp_cases (cmd mode : Byte) (value : List Byte) (s : State) :
    (encodeError cmd value = none ∧
      encodeOp cmd mode value s = (s.holdTx (commandFrame cmd mode value)).finish) ∨
    (∃ c, encodeError cmd value = some c ∧
      encodeOp cmd mode value s = s.clearTx.fail .invalidArgument c) := by
  unfold encodeOp
  cases h : encodeError cmd value <;> simp

theorem checksumOp_cases (b : List Byte) (lo hi : Nat) (s : State) :
    (rangeOk b lo hi = true ∧ checksumOp b lo hi s = (s.holdCsum (sum8 b lo hi)).finish) ∨
    (rangeOk b lo hi = false ∧ checksumOp b lo hi s = s.clearCsum.fail .badRange .none) := by
  unfold checksumOp
  cases h : rangeOk b lo hi <;> simp

theorem decodeOp_cases (b : List Byte) (s : State) :
    (responseError b = none ∧
      decodeOp b s = ((s.setClass .none).holdRx (kindOf (byteAt b 1)) (responseData b)).finish) ∨
    (∃ c, responseError b = some c ∧
      decodeOp b s = ((s.setClass .none).clearRx).fail c .none) := by
  unfold decodeOp
  cases h : responseError b <;> simp

/-- Everything CLASSIFY can answer. -/
theorem execClassify_cases (e : Byte) (s : State) :
    (s.rxvalid = false ∧ execClassify e s = .next ((s.setClass .none).fail .noValidFrame .none)) ∨
    (s.rxvalid = true ∧ s.rxKind = some .active ∧
      execClassify e s = .next (s.setClass .activeReport).finish) ∨
    (∃ d, s.rxvalid = true ∧ s.rxKind = some .passive ∧ s.rxData = some d ∧
      execClassify e s = .next (s.setClass (echoClass d e)).finish) ∨
    (s.rxvalid = true ∧ s.rxKind = none ∧ execClassify e s = .fault (.noValue .rxKind)) ∨
    (s.rxvalid = true ∧ s.rxKind = some .passive ∧ s.rxData = none ∧
      execClassify e s = .fault (.noValue .rxData)) := by
  unfold execClassify
  cases hv : s.rxvalid
  · simp
  · rcases hk : s.rxKind with _ | _ | _
    · simp
    · simp
    · cases hd : s.rxData <;> simp

/-- What an instruction does to the state when it answers a next state: one of the four operations or
the reserved one, with the opcode row that goes with it. -/
theorem exec_next_cases {i : Instr} {s t : State} (h : exec i s = .next t) :
    (i.row = rowEncode ∧ ∃ cmd mode value, t = encodeOp cmd mode value s) ∨
    (i.row = rowChecksum ∧ ∃ b lo hi, t = checksumOp b lo hi s) ∨
    (i.row = rowDecode ∧ ∃ b, t = decodeOp b s) ∨
    (i.row = rowClassify ∧ ∃ e, execClassify e s = .next t) ∨
    (i.row ∈ [rowReservedZero, rowReservedFive, rowReservedSixSeven, rowReservedHigh] ∧
      t = reservedOp s) := by
  cases i <;> simp only [exec] at h
  case classify e => exact .inr (.inr (.inr (.inl ⟨rfl, e, h⟩)))
  case checksum b lo hi => cases h; exact .inr (.inl ⟨rfl, b, lo, hi, rfl⟩)
  case decode b => cases h; exact .inr (.inr (.inl ⟨rfl, b, rfl⟩))
  case activeResponse => cases h; exact .inr (.inr (.inl ⟨rfl, _, rfl⟩))
  case passiveResponse => cases h; exact .inr (.inr (.inl ⟨rfl, _, rfl⟩))
  case reservedZero => cases h; exact .inr (.inr (.inr (.inr ⟨by simp [Instr.row], rfl⟩)))
  case reservedFive => cases h; exact .inr (.inr (.inr (.inr ⟨by simp [Instr.row], rfl⟩)))
  case reservedSixSeven => cases h; exact .inr (.inr (.inr (.inr ⟨by simp [Instr.row], rfl⟩)))
  case reservedHigh => cases h; exact .inr (.inr (.inr (.inr ⟨by simp [Instr.row], rfl⟩)))
  all_goals cases h; exact .inl ⟨rfl, _, _, _, rfl⟩

/-- An instruction stops only if CLASSIFY reads a register without value. -/
theorem exec_stop_cases {i : Instr} {s : State} (h : ∀ t, exec i s ≠ .next t) :
    s.rxvalid = true ∧ (s.rxKind = none ∨ (s.rxKind = some .passive ∧ s.rxData = none)) := by
  cases i <;> simp only [exec] at h
  case classify e =>
    rcases execClassify_cases e s with ⟨_, hc⟩ | ⟨_, _, hc⟩ | ⟨_, _, _, _, hc⟩ | ⟨hv, hk, _⟩ | ⟨hv, hk, hd, _⟩
    · exact absurd hc (h _)
    · exact absurd hc (h _)
    · exact absurd hc (h _)
    · exact ⟨hv, .inl hk⟩
    · exact ⟨hv, .inr ⟨hk, hd⟩⟩
  all_goals exact absurd rfl (h _)

/-! ## Requests and reads -/

@[simp] theorem respond_next (s : State) : respond (.next s) = .next s.respond := rfl

theorem respond_eq_next {r : Result} {t : State} (h : respond r = .next t) :
    ∃ u, r = .next u ∧ t = u.respond := by
  cases r with
  | next u => exact ⟨u, rfl, by simpa [respond] using h.symm⟩
  | fault f => simp [respond] at h
  | refused f => simp [respond] at h

theorem performRequest_next_cases {p : RequestPort} {s t : State} (h : performRequest p s = .next t) :
    ∃ u, exec (decode p) s = .next u ∧ t = u.respond := respond_eq_next h

theorem readEvent_next {r : ResultReg} {s t : State} (h : readEvent r s = .next t) : t = s := by
  unfold readEvent at h
  split at h <;> simp_all

/-- A data register gives its value when its valid bit is 1 and it holds one. -/
@[simp] theorem readData_some {α : Type} (r : ResultReg) (x : α) (as : α → RegValue) :
    readData r true (some x) as = .next (as x) := rfl

/-- A data register whose valid bit is 0 gives none (10_state.md R31). -/
@[simp] theorem readData_invalid {α : Type} (r : ResultReg) (v : Option α) (as : α → RegValue) :
    readData r false v as = .fault (.noValue r) := by cases v <;> rfl

end Sys2Proof.Machine
end

