-- ==== Sys2Proof/Laws/PerInstr.lean ====
section
/-! SUPPORT. The family RowMatch: the OP field of an encoded instruction is one that its row of the
opcode table takes, and no other request row does. -/

namespace Sys2Proof.Laws.RowMatch

/-- The one request row that takes the OP of the encoded instruction is the instruction's own. -/
def Statement (i : Instr) : Prop := requestRows.filter (fun r => r.takes (encode i).op) = [i.row]

theorem one_row_encode : requestRows.filter (fun r => r.takes 0x1) = [rowEncode] := by decide
theorem one_row_checksum : requestRows.filter (fun r => r.takes 0x2) = [rowChecksum] := by decide
theorem one_row_decode : requestRows.filter (fun r => r.takes 0x3) = [rowDecode] := by decide
theorem one_row_classify : requestRows.filter (fun r => r.takes 0x4) = [rowClassify] := by decide

theorem encode (cmd mode : Byte) (value : List Byte) : Statement (.encode cmd mode value) := one_row_encode
theorem checksum (buf : List Byte) (lo hi : Nat) : Statement (.checksum buf lo hi) := one_row_checksum
theorem decode (buf : List Byte) : Statement (.decode buf) := one_row_decode
theorem classify (expect : Byte) : Statement (.classify expect) := one_row_classify
theorem reservedZero : Statement .reservedZero := by unfold Statement; decide
theorem reservedFive : Statement .reservedFive := by unfold Statement; decide
theorem reservedSixSeven : ∀ low, Statement (.reservedSixSeven low) := by unfold Statement; decide
theorem reservedHigh : ∀ low, Statement (.reservedHigh low) := by unfold Statement; decide
theorem communicationMode (mode : Byte) (value : List Byte) : Statement (.communicationMode mode value) := one_row_encode
theorem query (mode : Byte) (value : List Byte) : Statement (.query mode value) := one_row_encode
theorem deviceId (mode : Byte) (value : List Byte) : Statement (.deviceId mode value) := one_row_encode
theorem workMode (mode : Byte) (value : List Byte) : Statement (.workMode mode value) := one_row_encode
theorem firmware (mode : Byte) (value : List Byte) : Statement (.firmware mode value) := one_row_encode
theorem dutyCycle (mode : Byte) (value : List Byte) : Statement (.dutyCycle mode value) := one_row_encode
theorem activeResponse (head : Byte) (data : Vector Byte 6) (csum tail : Byte) :
    Statement (.activeResponse head data csum tail) := one_row_decode
theorem passiveResponse (head : Byte) (data : Vector Byte 6) (csum tail : Byte) :
    Statement (.passiveResponse head data csum tail) := one_row_decode

end Sys2Proof.Laws.RowMatch
end

