-- ==== Sys2Proof/Laws/Step.lean ====
section
/-! SUPPORT. What one step can do, said once. -/

namespace Sys2Proof.Machine

theorem step_cons {s : State} {e : HostEvent} {rest : List HostEvent} (h : s.pending = e :: rest) :
    step s = perform e { s with pending := rest } := by simp [step, h]

theorem step_nil {s : State} (h : s.pending = []) : step s = .refused .noEvent := by simp [step, h]

/-- A step that answers a next state performed a request, took a reset or served a read. -/
theorem step_next_cases {s t : State} (h : step s = .next t) :
    (∃ p rest u, s.pending = .request p :: rest ∧
      exec (decode p) { s with pending := rest } = .next u ∧ t = u.respond) ∨
    (∃ q rest, s.pending = .rst q :: rest ∧ t = { s with pending := rest }.resetEvent) ∨
    (∃ r rest, s.pending = .read r :: rest ∧ t = { s with pending := rest }) := by
  rcases hp : s.pending with _ | ⟨e, rest⟩
  · simp [step_nil hp] at h
  · rw [step_cons hp] at h
    cases e with
    | request p =>
      obtain ⟨u, hx, ht⟩ := performRequest_next_cases h
      exact .inl ⟨p, rest, u, rfl, hx, ht⟩
    | rst q => exact .inr (.inl ⟨q, rest, rfl, by simpa [perform] using h.symm⟩)
    | read r => exact .inr (.inr ⟨r, rest, rfl, readEvent_next h⟩)

/-! ## Runs -/

theorem run_succ_of_next {s t : State} (k : Nat) (h : step s = .next t) :
    Host.Core.run Sys2Proof.core (k + 1) s = Host.Core.run Sys2Proof.core k t := by
  have hc : Sys2Proof.core.step s = _ := h
  simp only [Host.Core.run, hc]

theorem run_succ_of_fault {s : State} {f : Fault} (k : Nat) (h : step s = .fault f) :
    Host.Core.run Sys2Proof.core (k + 1) s = .fault f := by
  have hc : Sys2Proof.core.step s = _ := h
  simp only [Host.Core.run, hc]

theorem run_succ_of_refused {s : State} {f : Refusal} (k : Nat) (h : step s = .refused f) :
    Host.Core.run Sys2Proof.core (k + 1) s = .refused f := by
  have hc : Sys2Proof.core.step s = _ := h
  simp only [Host.Core.run, hc]

/-- The presented word is the next event. -/
@[simp] theorem State.withFetchWord_pending (s : State) (n w : Nat) :
    (s.withFetchWord n w).pending = .request (tableRequest n w) :: s.pending := rfl

end Sys2Proof.Machine
end

