-- ==== Sys2Proof/Tests/Slice0.lean ====
section
/-! SUPPORT. Tests of one step or less, their expected results taken from the spec's encodings and from
95_test_vectors.md (V<n>), and a witness for the hypotheses of each statement. -/

namespace Sys2Proof.Tests

open Sys2Proof Sys2Proof.Machine

/-! ## Helpers -/

/-- The state an outcome answers, if it answers one. -/
def after (r : Result) : Option State :=
  match r with
  | .next t => some t
  | .fault _ => none
  | .refused _ => none

/-- Reset, with these events to come. -/
def presenting (evs : List HostEvent) : State := { State.reset with pending := evs }

/-- A state that holds a response frame. -/
def holding (k : RxKind) (d : Vector Byte 6) : State :=
  { State.reset with status := .ok, rxvalid := true, rxKind := some k, rxData := some d }

/-- RX_DATA of V42, the firmware reply. -/
def firmwareData : Vector Byte 6 := #v[0x07, 0x0A, 0x0A, 0x09, 0x12, 0x34]

/-- V42. -/
def firmwareReply : List Byte := [0xAA, 0xC5, 0x07, 0x0A, 0x0A, 0x09, 0x12, 0x34, 0x6A, 0xAB]

/-- V43. -/
def activeReport : List Byte := [0xAA, 0xC0, 0xD4, 0x04, 0x3A, 0x0A, 0xA1, 0x60, 0x1D, 0xAB]

/-- TXBUF of V6, `ENCODE FIRMWARE, 0x00, {}`. -/
def firmwareFrame : Vector Byte 19 :=
  #v[0xAA, 0xB4, 0x07, 0x00, 0x00, 0x00, 0x00, 0x00, 0x00, 0x00, 0x00, 0x00, 0x00, 0x00, 0x00, 0xFF,
     0xFF, 0xB9, 0xAB]

/-! ## WellFormed: one ill-formed term for each check -/

theorem test_wf_refuses_sixteen_values : wellFormed (.encode 0x02 0 (List.replicate 16 0)) = false := by
  decide
theorem test_wf_refuses_sixteen_values_of_a_row : wellFormed (.query 0 (List.replicate 16 0)) = false := by
  decide
theorem test_wf_takes_fifteen_values : wellFormed (.encode 0x02 0 (List.replicate 15 0)) = true := by
  decide
theorem test_wf_refuses_long_buffer :
    wellFormed (.checksum (List.replicate (Config.bufMax + 1) 0) 0 0) = false ∧
    wellFormed (.decode (List.replicate (Config.bufMax + 1) 0)) = false := by
  simp [wellFormed, bufFits]
theorem test_wf_takes_nineteen_bytes : wellFormed (.decode (List.replicate 19 0)) = true := by
  simp [wellFormed, bufFits, Config.bufMax]

/-! ## Decoding: field values written out from 30_encoding.md R78 and R83 -/

/-- VALUE lines with one byte on the first, and bytes that VLEN = 1 leaves unread. -/
def oneValue : Vector Byte 15 := #v[0x1E, 9, 9, 9, 9, 9, 9, 9, 9, 9, 9, 9, 9, 9, 9]

theorem test_decode_ENCODE :
    decode { RequestPort.zero with op := 0b0001, cmd := 0x09, mode := 0x01, vlen := 0b0001, value := oneValue }
      = (.encode 0x09 0x01 [0x1E]) := by decide
theorem test_decode_CHECKSUM :
    decode { RequestPort.zero with op := 0b0010, buf := [0xFF, 0x01], bufRest := [0x77], lo := 1, hi := 2 }
      = (.checksum [0xFF, 0x01] 1 2) := by decide
theorem test_decode_DECODE :
    decode { RequestPort.zero with op := 0b0011, buf := [0xAA, 0xC5], bufRest := [0x07] }
      = (.decode [0xAA, 0xC5]) := by decide
theorem test_decode_CLASSIFY :
    decode { RequestPort.zero with op := 0b0100, expect := 0x07, cmd := 0x55 } = (.classify 0x07) := by
  decide
theorem test_decode_RESERVED_0 : decode { RequestPort.zero with op := 0b0000 } = .reservedZero := by decide
theorem test_decode_RESERVED_5 : decode { RequestPort.zero with op := 0b0101 } = .reservedFive := by decide
theorem test_decode_RESERVED_6_7 :
    decode { RequestPort.zero with op := 0b0110 } = (.reservedSixSeven 0) ∧
    decode { RequestPort.zero with op := 0b0111 } = (.reservedSixSeven 1) := by decide
theorem test_decode_RESERVED_8_F :
    decode { RequestPort.zero with op := 0b1000 } = (.reservedHigh 0) ∧
    decode { RequestPort.zero with op := 0b1110 } = (.reservedHigh 6) := by decide
theorem test_decode_COMMUNICATION_MODE :
    decode { RequestPort.zero with op := 0b0001, cmd := 0x02, mode := 0x01, vlen := 0b0001, value := oneValue }
      = (.communicationMode 0x01 [0x1E]) := by decide
theorem test_decode_QUERY :
    decode { RequestPort.zero with op := 0b0001, cmd := 0x04 } = (.query 0x00 []) := by decide
theorem test_decode_DEVICE_ID :
    decode { RequestPort.zero with op := 0b0001, cmd := 0x05 } = (.deviceId 0x00 []) := by decide
theorem test_decode_WORK_MODE :
    decode { RequestPort.zero with op := 0b0001, cmd := 0x06 } = (.workMode 0x00 []) := by decide
theorem test_decode_FIRMWARE :
    decode { RequestPort.zero with op := 0b0001, cmd := 0x07 } = (.firmware 0x00 []) := by decide
theorem test_decode_DUTY_CYCLE :
    decode { RequestPort.zero with op := 0b0001, cmd := 0x08, mode := 0x01, vlen := 0b0001, value := oneValue }
      = (.dutyCycle 0x01 [0x1E]) := by decide
theorem test_decode_ACTIVE_RESPONSE :
    decode { RequestPort.zero with op := 0b0011, buf := activeReport }
      = (.activeResponse 0xAA #v[0xD4, 0x04, 0x3A, 0x0A, 0xA1, 0x60] 0x1D 0xAB) := by decide
theorem test_decode_PASSIVE_RESPONSE :
    decode { RequestPort.zero with op := 0b0011, buf := firmwareReply }
      = (.passiveResponse 0xAA firmwareData 0x6A 0xAB) := by decide
theorem test_blen_is_the_length_of_buf :
    ({ RequestPort.zero with buf := firmwareReply, bufRest := [0x77] } : RequestPort).blen = 10 := by decide
theorem test_request_rows_cover_every_op :
    ∀ op : BitVec 4, (requestRows.filter (fun r => r.takes op)).length = 1 := by decide
theorem test_table_words_of_responses :
    decodeTableWord 8 0xC0 = some (.activeResponse 0 #v[0, 0, 0, 0, 0, 0] 0 0) ∧
    decodeTableWord 8 0xC5 = some (.passiveResponse 0 #v[0, 0, 0, 0, 0, 0] 0 0) := by decide
theorem test_first_step_runs_table_word :
    (after (step (State.reset.withFetchWord 8 0x5))).map State.status = some .badOp := by decide

/-! ## Meanings: vectors of 95_test_vectors.md, each from reset -/

theorem test_ENCODE_V6 :
    (after (exec (.encode 0x07 0x00 []) State.reset)).map State.txbuf = some (some firmwareFrame) := by decide
theorem test_ENCODE_V27_reports_bad_command :
    (after (exec (.encode 0x09 0x00 (List.replicate 11 0)) State.reset)).map
      (fun t => (t.response.status, t.response.cause)) = some (0x1, 1) := by decide
theorem test_CHECKSUM_V34 :
    (after (exec (.checksum firmwareFrame.toList 0 19) State.reset)).map State.csumOut = some (some 0xC7) := by
  decide
theorem test_CHECKSUM_V41_range_after_end :
    (after (exec (.checksum [0x10, 0x20, 0x30] 4 4) State.reset)).map (fun t => (t.status, t.csvalid))
      = some (.badRange, false) := by decide
theorem test_DECODE_V53_checksum_before_id :
    (after (exec (.decode [0xAA, 0xC4, 0x07, 0x0A, 0x0A, 0x09, 0x12, 0x34, 0x6B, 0xAB]) State.reset)).map
      State.status = some .badChecksum := by decide
theorem test_DECODE_V54_tail :
    (after (exec (.decode [0xAA, 0xC5, 0x07, 0x0A, 0x0A, 0x09, 0x12, 0x34, 0x6A, 0xAA]) State.reset)).map
      State.status = some .badTail := by decide
theorem test_CLASSIFY_V64_stale :
    (after (exec (.classify 0x04) (holding .passive firmwareData))).map State.cls = some .stale := by decide
theorem test_CLASSIFY_V76_active_with_equal_echo :
    (after (exec (.classify 0x07) (holding .active #v[0x07, 0, 0, 0, 0, 0]))).map State.cls
      = some .activeReport := by decide
theorem test_RESERVED_V81_keeps_txbuf :
    (after (exec (.reservedHigh 7) { State.reset with txvalid := true, txbuf := some firmwareFrame })).map
      (fun t => (t.status, t.txbuf)) = some (.badOp, some firmwareFrame) := by decide
theorem test_COMMUNICATION_MODE_V16_wraps :
    (after (exec (.communicationMode 0xFF (List.replicate 10 0xFF)) State.reset)).map
      (fun t => t.txbuf.map (fun f => (f[14], f[17]))) = some (some (0x00, 0xA9)) := by decide
theorem test_QUERY_V3 :
    (after (exec (.query 0x00 []) State.reset)).map (fun t => t.txbuf.map (fun f => (f[2], f[17])))
      = some (some (0x04, 0xB6)) := by decide
theorem test_DEVICE_ID_V10 :
    (after (exec (.deviceId 0x01 [0x12, 0x34]) State.reset)).map
      (fun t => t.txbuf.map (fun f => (f[2], f[5], f[17]))) = some (some (0x05, 0x34, 0xFE)) := by decide
theorem test_WORK_MODE_V11 :
    (after (exec (.workMode 0x01 [0x01]) State.reset)).map (fun t => t.txbuf.map (fun f => (f[2], f[17])))
      = some (some (0x06, 0xBA)) := by decide
theorem test_FIRMWARE_V14 :
    (after (exec (.firmware 0x00 [1, 2, 3, 4, 5, 6, 7, 8, 9, 10]) State.reset)).map
      (fun t => t.txbuf.map (fun f => (f[2], f[13], f[17]))) = some (some (0x07, 0x0A, 0xF0)) := by decide
theorem test_DUTY_CYCLE_V17_not_range_checked :
    (after (exec (.dutyCycle 0x01 [0x23]) State.reset)).map (fun t => t.txbuf.map (fun f => (f[2], f[17])))
      = some (some (0x08, 0xDE)) := by decide
theorem test_ACTIVE_RESPONSE_V45 :
    (after (exec (.activeResponse 0xAA #v[255, 255, 255, 255, 255, 255] 0xFA 0xAB) State.reset)).map
      (fun t => (t.status, t.rxKind)) = some (.ok, some .active) := by decide
theorem test_PASSIVE_RESPONSE_V42 :
    (after (exec (.passiveResponse 0xAA firmwareData 0x6A 0xAB) State.reset)).map
      (fun t => (t.rxKind, t.rxData)) = some (some .passive, some firmwareData) := by decide
/-- V42 then V63, at the step: the lines of the response to CLASSIFY 0x07 (R35). -/
theorem test_response_lines_V63 :
    (after (step { holding .passive firmwareData with
      pending := [.request { RequestPort.zero with op := 4, expect := 0x07 }] })).map State.responses
      = some [{ status := 0x0, cause := 0, txvalid := false, txbuf := none, rxvalid := true,
                rxKind := some 1, rxData := some firmwareData, cls := 2, csvalid := false,
                csumOut := none, isActive := false, isPassiveReply := true }] := by decide
theorem test_RST_V84_clears_class :
    (after (step { holding .passive firmwareData with cls := .passiveReply, pending := [.rst none] })).map
      (fun t => (t.status, t.cls, t.rxvalid)) = some (.none, .none, false) := by decide

/-! ## Witnesses: states and operands that meet the hypotheses of the statements -/

theorem presenting_inv (evs : List HostEvent) : (presenting evs).Inv :=
  ⟨⟨rfl, rfl, rfl, rfl⟩, rfl, by simp [State.CauseMatches, presenting, State.reset],
    by simp [State.ClassMatches, presenting, State.reset],
    by simp [State.NothingHeld, presenting, State.reset]⟩

theorem witness_ResetEventGivesResetTable :
    (presenting [.rst (some RequestPort.zero), .read .cls]).pending
      = .rst (some RequestPort.zero) :: [.read .cls] := rfl
theorem witness_StepKeepsInvariant :
    (presenting [.request RequestPort.zero]).Inv ∧
    (after (step (presenting [.request RequestPort.zero]))).isSome = true := ⟨presenting_inv _, by decide⟩
theorem witness_OnlyResetGivesStatusNone :
    (holding .active firmwareData).status ≠ .none ∧
    (after (step { holding .active firmwareData with pending := [.rst none] })).map State.status
      = some .none := by decide
theorem witness_StepRunsDecodedRequest :
    (presenting [.request RequestPort.zero]).pending = .request RequestPort.zero :: [] := rfl
theorem witness_StepIsRefusedOnlyWithNothingPresented :
    State.reset.pending = [] ∧ step State.reset = .refused .noEvent := ⟨rfl, rfl⟩
theorem witness_DecodeOfEncodeGivesInstruction :
    WellFormed (.encode 0x09 0xFF [1, 2]) ∧ (Instr.encode 0x09 0xFF [1, 2]).spelling = .encode 0x09 0xFF [1, 2] ∧
    WellFormed (.dutyCycle 1 (List.replicate 15 7)) := by decide
theorem witness_EncodeOfDecodeKeepsInstruction :
    ({ RequestPort.zero with buf := [5], bufRest := [6] } : RequestPort).blen ≤ Config.bufMax := by
  simp [RequestPort.blen, Config.bufMax]
/-- CHECKSUM of [0, 1): the second byte, the lines after BLEN and the other fields may differ. -/
theorem witness_UnreadPortFieldsChangeNothing :
    AgreeOnReadFields { RequestPort.zero with op := 0x2, buf := [5, 6], hi := 1 }
      { RequestPort.zero with op := 0x2, buf := [5, 7], hi := 1, bufRest := [8], cmd := 3, expect := 4 } where
  op := rfl
  encode h := absurd h (by decide)
  checksum _ := ⟨rfl, rfl, rfl, fun _ _ i _ hi => by
    obtain rfl : i = 0 := Nat.lt_one_iff.mp hi
    rfl⟩
  decode h := absurd h (by decide)
  classify h := absurd h (by decide)
/-- DECODE of nine bytes: only their number counts. -/
theorem witness_UnreadPortFieldsChangeNothing_decode :
    AgreeOnReadFields { RequestPort.zero with op := 0x3, buf := List.replicate 9 0 }
      { RequestPort.zero with op := 0x3, buf := List.replicate 9 0xAA } where
  op := rfl
  encode h := absurd h (by decide)
  checksum h := absurd h (by decide)
  decode _ := ⟨rfl, fun h => absurd h (by decide)⟩
  classify h := absurd h (by decide)
/-- BLEN 9 and 11 beside the one length DECODE takes; HI one past BLEN; LO one past HI. -/
theorem witness_RejectedBuffersAreNotRead :
    (∀ n ∈ [0, 9, 11], ({ RequestPort.zero with op := 0x3, buf := List.replicate n 0 } : RequestPort).blen ≠ 10) ∧
    ¬ (0 ≤ 2 ∧ 2 ≤ ({ RequestPort.zero with op := 0x2, buf := [5], hi := 2 } : RequestPort).blen ∧
      2 ≤ Config.bufMax) ∧
    ¬ (1 ≤ 0 ∧ 0 ≤ ({ RequestPort.zero with op := 0x2, buf := [5], lo := 1 } : RequestPort).blen ∧
      0 ≤ Config.bufMax) :=
  ⟨by decide, fun h => absurd h.2.1 (by decide), fun h => absurd h.1 (by decide)⟩
/-- Also for CommandRowsBuildTheirFrame, EncodedChecksumClosedForm and ChecksumOfBuiltFrameIsItsByte. -/
theorem witness_EncodeOperation :
    ((0x08 : Byte) ∈ [0x02, 0x04, 0x05, 0x06, 0x07, (0x08 : Byte)] ∧ (List.replicate 10 (0 : Byte)).length ≤ 10) ∧
    ((0x03 : Byte) ∉ [0x02, 0x04, 0x05, 0x06, 0x07, (0x08 : Byte)]) ∧
    10 < (List.replicate 11 (0 : Byte)).length := by decide
/-- Also for CommandFrameIsNoResponse. -/
theorem witness_FrameDeterminesItsArguments :
    after (exec (.encode 0x07 0x00 []) State.reset) = some (State.reset.encoded firmwareFrame) ∧
    after (exec (.encode 0x07 0x00 [0]) State.reset) = some (State.reset.encoded firmwareFrame) := by decide
theorem witness_SumIsWrapAroundAdditionInAnyOrder :
    1 ≤ 3 ∧ 3 ≤ ([1, 2, 3] : List Byte).length ∧ ([3, 2] : List Byte).Perm (([1, 2, 3] : List Byte).take 3 |>.drop 1) := by
  decide
theorem witness_ChecksumOperation :
    (19 ≤ 19 ∧ 19 ≤ (List.replicate 19 (0 : Byte)).length ∧ 19 ≤ Config.bufMax) ∧
    ¬ (2 ≤ 1 ∧ 1 ≤ ([0, 0, 0] : List Byte).length ∧ 1 ≤ Config.bufMax) :=
  ⟨⟨by decide, by decide, by simp [Config.bufMax]⟩, fun h => absurd h.1 (by decide)⟩
theorem witness_DecodeAcceptsExactlyTheLayout :
    (after (exec (.decode firmwareReply) State.reset)).map State.status = some .ok := by decide
theorem witness_FailureRecordsOnlyStatusAndCause :
    after (exec (.decode [0xAA]) State.reset) = after (exec (.decode []) State.reset) ∧
    (after (exec (.decode []) State.reset)).map State.status = some .frameTooShort := by decide
/-- Also for ClassifyOutputsAreThePredicates. -/
theorem witness_ClassifyOperation :
    State.reset.rxvalid = false ∧ (holding .active firmwareData).rxKind = some .active ∧
    (holding .passive firmwareData).rxvalid = true ∧ (holding .passive firmwareData).rxKind = some .passive ∧
    (holding .passive firmwareData).rxData = some firmwareData ∧ firmwareData[0] = 0x07 ∧
    firmwareData[0] ≠ 0x04 := by decide
theorem witness_ClassifyReadsOnlyTheHeldFrame :
    (holding .passive firmwareData).rxData.map (fun d => d[0])
      = (holding .passive #v[0x07, 1, 1, 1, 1, 1]).rxData.map (fun d => d[0]) ∧
    (after (exec (.classify 7) (holding .passive firmwareData))).isSome = true ∧
    (after (exec (.classify 7) (holding .passive #v[0x07, 1, 1, 1, 1, 1]))).isSome = true := by decide
theorem witness_ActiveAndPassiveExcludeEachOther :
    (after (exec (.classify 7) (holding .passive firmwareData))).isSome = true ∧
    (after (exec (.classify 8) (holding .passive firmwareData))).isSome = true := by decide
theorem witness_ReservedOpReportsBadOp :
    (presenting [.request { RequestPort.zero with op := 0xF, cmd := 7 }]).pending
      = [.request { RequestPort.zero with op := 0xF, cmd := 7 }] ∧
    (0xF : BitVec 4) ∈ [0x0, 0x5, 0x6, 0x7, 0x8, 0x9, 0xA, 0xB, 0xC, 0xD, 0xE, (0xF : BitVec 4)] := by decide
/-- An instruction of each row completes: for OperationsKeepTheirFootprint, OperationsRaiseOnlyTheirCodes
and CodecDependsOnTheRequestAlone. -/
theorem witness_exec_of_each_row :
    ∀ i ∈ [Instr.encode 2 0 [], .checksum [] 0 0, .decode [], .classify 0, .reservedZero, .reservedFive,
           .reservedSixSeven 0, .reservedHigh 0],
      (after (exec i State.reset)).isSome = true := by decide
theorem witness_HeldFrameChangesOnlyByDecodeOrReset :
    (after (step (presenting [.request (decodeRequest firmwareReply)]))).map State.rxvalid = some true ∧
    (after (step { holding .passive firmwareData with pending := [.rst none] })).map State.rxvalid
      = some false := by decide
theorem witness_ClassificationBelongsToHeldFrame :
    (after (step { holding .passive firmwareData with
      cls := .stale, pending := [.request (decodeRequest firmwareReply)] })).map State.cls = some .none ∧
    (after (step { holding .passive firmwareData with
      cls := .stale, pending := [.request (encodeRequest 4 0 [])] })).map State.cls = some .stale ∧
    (after (step { holding .passive firmwareData with
      pending := [.request { RequestPort.zero with op := 4, expect := 7 }] })).map State.cls
      = some .passiveReply := by decide
theorem witness_ReadOfInvalidRegisterFaults :
    State.reset.txvalid = false ∧ State.reset.rxvalid = false ∧ State.reset.csvalid = false := by decide
theorem witness_ReadGivesTheRegisterContent :
    (State.reset.encoded firmwareFrame).txvalid = true ∧
    (State.reset.encoded firmwareFrame).txbuf = some firmwareFrame ∧
    (holding .active firmwareData).rxvalid = true ∧ (holding .active firmwareData).rxKind = some .active ∧
    (holding .active firmwareData).rxData = some firmwareData ∧
    (after (exec (.checksum [] 0 0) State.reset)).map (fun t => (t.csvalid, t.csumOut))
      = some (true, some 0x00) := by decide
/-- The second clause of ReadsHaveNoSideEffect. -/
theorem witness_ReadsHaveNoSideEffect_fault :
    (presenting [.read .txbuf]).pending = [.read .txbuf] ∧
    readReg .txbuf (presenting [.read .txbuf]) = .fault (.noValue .txbuf) := ⟨rfl, rfl⟩
theorem witness_ReadsHaveNoSideEffect :
    ({ holding .passive firmwareData with pending := [.read .rxData] } : State).Inv ∧
    EventReady { holding .passive firmwareData with pending := [.read .rxData] } (.read .rxData) :=
  ⟨⟨⟨rfl, rfl, rfl, rfl⟩, rfl, by simp [State.CauseMatches, holding, State.reset],
    by simp [State.ClassMatches, holding, State.reset], by simp [State.NothingHeld, holding]⟩, rfl⟩
theorem witness_EveryRequestCompletesWithAResponse :
    (presenting [.request (decodeRequest firmwareReply)]).Inv := presenting_inv _
theorem witness_RunAnswersEachRequestOnce :
    (presenting [.request (decodeRequest firmwareReply), .rst none]).Inv ∧
    ∀ e ∈ [HostEvent.request (decodeRequest firmwareReply), .rst none],
      (∃ q, e = .rst q) ∨ (∃ p, e = .request p) := by
  refine ⟨presenting_inv _, ?_⟩
  intro e he
  simp only [List.mem_cons, List.not_mem_nil, or_false] at he
  rcases he with rfl | rfl
  · exact .inr ⟨_, rfl⟩
  · exact .inl ⟨_, rfl⟩
theorem witness_HistoryNeverMatters :
    SameRegs (presenting []) { presenting [] with responses := [State.reset.response] } ∧
    (presenting []).responses ≠ [State.reset.response] :=
  ⟨⟨rfl, rfl, rfl, rfl, rfl, rfl, rfl, rfl, rfl, rfl⟩, by decide⟩

end Sys2Proof.Tests
end

section
/-! The checksum function: its two other readings, byte by byte over the natural numbers (`sumBytes`)
and as a sum of 8-bit words, and the obligation about it. -/

namespace Sys2Proof.Proofs
open Sys2Proof.Machine

/-- Reading the bytes of a range one by one is cutting the range out of the buffer. -/
theorem map_range_getD_eq_drop_take {b : List Byte} {lo hi : Nat} (h : hi ≤ b.length) :
    (List.range (hi - lo)).map (fun k => b.getD (lo + k) 0) = (b.take hi).drop lo := by
  apply List.ext_getElem
  · simp [h]
  · intro i h₁ h₂
    have hlt : lo + i < b.length := by simp at h₁; omega
    simp [hlt]

theorem sumBytes_eq_sum_drop_take {b : List Byte} {lo hi : Nat} (h : hi ≤ b.length) :
    sumBytes b lo hi = (((b.take hi).drop lo).map BitVec.toNat).sum := by
  rw [← map_range_getD_eq_drop_take h, List.map_map]
  rfl

/-- The model's checksum of a range inside the buffer is the sum the statements write out (R9). -/
theorem sum8_eq_ofNat_sumBytes {b : List Byte} {lo hi : Nat} (h : hi ≤ b.length) :
    sum8 b lo hi = BitVec.ofNat 8 (sumBytes b lo hi) := by
  rw [sumBytes_eq_sum_drop_take h, sum8]

theorem toNat_sum8 {b : List Byte} {lo hi : Nat} (h : hi ≤ b.length) :
    (sum8 b lo hi).toNat = sumBytes b lo hi % 256 := by
  rw [sum8_eq_ofNat_sumBytes h, BitVec.toNat_ofNat]

@[simp] theorem sum8_self (b : List Byte) (lo : Nat) : sum8 b lo lo = 0x00 := by
  have hempty : (b.take lo).drop lo = [] := List.drop_eq_nil_of_le (List.length_take_le lo b)
  simp [sum8, hempty]

/-- Reducing once after the natural sum is reducing after each byte: the cast to 8 bits is additive. -/
theorem ofNat_sum_toNat (l : List Byte) : BitVec.ofNat 8 (l.map BitVec.toNat).sum = l.sum := by
  induction l with
  | nil => rfl
  | cons x xs ih =>
    rw [List.map_cons, List.sum_cons, List.sum_cons, BitVec.ofNat_add, ih, BitVec.ofNat_toNat,
      BitVec.setWidth_eq]

theorem sum8_eq_sum (b : List Byte) (lo hi : Nat) : sum8 b lo hi = ((b.take hi).drop lo).sum :=
  ofNat_sum_toNat _

/-- Settles O18: the 8-bit sum of the range is a sum in a commutative group, so the order is free. -/
theorem sumIsWrapAroundAdditionInAnyOrder : Obligations.SumIsWrapAroundAdditionInAnyOrder := by
  intro b lo hi _ hhi
  refine ⟨toNat_sum8 hhi, sum8_self b lo, fun c hc => ?_⟩
  calc c.foldl (fun x y => x + y) 0
      = c.sum := List.sum_eq_foldl.symm
    _ = ((b.take hi).drop lo).sum := hc.sum_eq
    _ = sum8 b lo hi := (sum8_eq_sum b lo hi).symm

end Sys2Proof.Proofs
end

section
/-! Footprints (10_state.md R37): what each operation leaves unchanged, one lemma per operation, and
the obligations about the registers. -/

namespace Sys2Proof.Proofs
open Sys2Proof.Machine

/-! ## Reads of a register without value -/

/-- Settles O37: each of the four data registers is read through `readData` with its own valid bit. -/
theorem readOfInvalidRegisterFaults : Obligations.ReadOfInvalidRegisterFaults := by
  intro s
  refine ⟨fun htx => ?_, fun hrx => ⟨?_, ?_⟩, fun hcs => ?_⟩
  · simp [readReg, htx]
  · simp [readReg, hrx]
  · simp [readReg, hrx]
  · simp [readReg, hcs]

/-! ## What each operation leaves unchanged -/

/-- ENCODE writes STATUS, CAUSE and the transmit registers only. -/
theorem encodeOp_frame (cmd mode : Byte) (value : List Byte) (s : State) :
    SameRx s (encodeOp cmd mode value s) ∧ s.cls = (encodeOp cmd mode value s).cls ∧
    SameCsum s (encodeOp cmd mode value s) ∧ SamePorts s (encodeOp cmd mode value s) := by
  rcases encodeOp_cases cmd mode value s with ⟨_, ht⟩ | ⟨c, _, ht⟩ <;> rw [ht]
  · simp [SameRx, SameCsum, SamePorts]
  · simp [SameRx, SameCsum, SamePorts]

/-- CHECKSUM writes STATUS, CAUSE and the checksum registers only. -/
theorem checksumOp_frame (b : List Byte) (lo hi : Nat) (s : State) :
    SameTx s (checksumOp b lo hi s) ∧ SameRx s (checksumOp b lo hi s) ∧
    s.cls = (checksumOp b lo hi s).cls ∧ SamePorts s (checksumOp b lo hi s) := by
  rcases checksumOp_cases b lo hi s with ⟨_, ht⟩ | ⟨_, ht⟩ <;> rw [ht]
  · simp [SameTx, SameRx, SamePorts]
  · simp [SameTx, SameRx, SamePorts]

/-- DECODE writes STATUS, CAUSE, the held response frame and CLASS only. -/
theorem decodeOp_frame (b : List Byte) (s : State) :
    SameTx s (decodeOp b s) ∧ SameCsum s (decodeOp b s) ∧ SamePorts s (decodeOp b s) := by
  rcases decodeOp_cases b s with ⟨_, ht⟩ | ⟨c, _, ht⟩ <;> rw [ht]
  · simp [SameTx, SameCsum, SamePorts]
  · simp [SameTx, SameCsum, SamePorts]

/-- A completed CLASSIFY writes STATUS, CAUSE and CLASS only. -/
theorem execClassify_frame {e : Byte} {s t : State} (h : execClassify e s = .next t) :
    SameTx s t ∧ SameRx s t ∧ SameCsum s t ∧ SamePorts s t := by
  rcases execClassify_cases e s with
    ⟨_, hc⟩ | ⟨_, _, hc⟩ | ⟨d, _, _, _, hc⟩ | ⟨_, _, hc⟩ | ⟨_, _, _, hc⟩ <;> rw [hc] at h <;> cases h
  case inl => simp [SameTx, SameRx, SameCsum, SamePorts]
  case inr.inl => simp [SameTx, SameRx, SameCsum, SamePorts]
  case inr.inr.inl => simp [SameTx, SameRx, SameCsum, SamePorts]

/-- A reserved OP writes STATUS and CAUSE only. -/
theorem reservedOp_frame (s : State) :
    SameTx s (reservedOp s) ∧ SameRx s (reservedOp s) ∧ s.cls = (reservedOp s).cls ∧
    SameCsum s (reservedOp s) ∧ SamePorts s (reservedOp s) := by
  simp [reservedOp, SameTx, SameRx, SameCsum, SamePorts]

/-- Settles O31: by the operation of the instruction's row, each of which has its frame lemma. -/
theorem operationsKeepTheirFootprint : Obligations.OperationsKeepTheirFootprint := by
  intro i s t h
  rcases exec_next_cases h with
    ⟨hrow, cmd, mode, value, rfl⟩ | ⟨hrow, b, lo, hi, rfl⟩ | ⟨hrow, b, rfl⟩ | ⟨hrow, e, he⟩ | ⟨_, rfl⟩
  · obtain ⟨hrx, hcls, hcsum, hports⟩ := encodeOp_frame cmd mode value s
    exact ⟨absurd hrow, fun _ => hrx, fun _ _ => hcls, fun _ => hcsum, hports⟩
  · obtain ⟨htx, hrx, hcls, hports⟩ := checksumOp_frame b lo hi s
    exact ⟨fun _ => htx, fun _ => hrx, fun _ _ => hcls, absurd hrow, hports⟩
  · obtain ⟨htx, hcsum, hports⟩ := decodeOp_frame b s
    exact ⟨fun _ => htx, absurd hrow, fun hne => absurd hrow hne, fun _ => hcsum, hports⟩
  · obtain ⟨htx, hrx, hcsum, hports⟩ := execClassify_frame he
    exact ⟨fun _ => htx, fun _ => hrx, fun _ => absurd hrow, fun _ => hcsum, hports⟩
  · obtain ⟨htx, hrx, hcls, hcsum, hports⟩ := reservedOp_frame s
    exact ⟨fun _ => htx, fun _ => hrx, fun _ _ => hcls, fun _ => hcsum, hports⟩

end Sys2Proof.Proofs
end

section
/-! Noninterference of the request port (10_state.md R34, 20_memory.md R54): two ports that agree on
what their common operation reads are performed alike. -/

namespace Sys2Proof.Proofs
open Sys2Proof.Machine

/-! ## What the operations read of their byte sequences -/

/-- VALUE[0..VLEN) is determined by VLEN and the VALUE bytes below it. -/
theorem valueBytes_congr {p q : RequestPort} (hvlen : p.vlen = q.vlen)
    (hvalue : ∀ i : Fin 15, i.val < p.vlen.toNat → p.value[i] = q.value[i]) :
    p.valueBytes = q.valueBytes := by
  apply List.ext_getElem
  · simp [RequestPort.valueBytes, hvlen]
  · intro i hp _
    have hi : i < p.vlen.toNat ∧ i < 15 := by simpa [RequestPort.valueBytes] using hp
    simpa [RequestPort.valueBytes] using hvalue ⟨i, hi.2⟩ hi.1

/-- A checksum depends on the bytes of its range only. -/
theorem sum8_congr {b b' : List Byte} {lo hi : Nat}
    (h : ∀ i, lo ≤ i → i < hi → b[i]? = b'[i]?) : sum8 b lo hi = sum8 b' lo hi := by
  have hcut : (b.take hi).drop lo = (b'.take hi).drop lo := by
    apply List.ext_getElem?
    intro k
    simp only [List.getElem?_drop, List.getElem?_take]
    split
    case isTrue hk => exact h (lo + k) (Nat.le_add_right lo k) hk
    case isFalse => rfl
  rw [sum8, sum8, hcut]

/-- CHECKSUM depends on BLEN, and on the bytes of its range only where it accepts the range. -/
theorem checksumOp_congr {b b' : List Byte} {lo hi : Nat} (hlen : b.length = b'.length)
    (hbytes : hi ≤ b.length → hi ≤ Config.bufMax → ∀ i, lo ≤ i → i < hi → b[i]? = b'[i]?) (s : State) :
    checksumOp b lo hi s = checksumOp b' lo hi s := by
  have hok : rangeOk b' lo hi = rangeOk b lo hi := by simp [rangeOk, hlen]
  cases hb : rangeOk b lo hi
  · simp [checksumOp, hok, hb]
  · obtain ⟨_, hblen, hmax⟩ := rangeOk_iff.mp hb
    rw [checksumOp, checksumOp, hok, sum8_congr (hbytes hblen hmax)]

/-- Every buffer whose length is not ten is decoded alike (40_frame_codec.md R111). -/
theorem decodeOp_of_length_ne {b : List Byte} (h : b.length ≠ responseLength) (s : State) :
    decodeOp b s = ((s.setClass .none).clearRx).fail .frameTooShort .none := by
  simp [decodeOp, responseError_of_length_ne h]

/-- DECODE depends on BLEN, and on the bytes only where there are ten. -/
theorem exec_decodeInstr_congr {b b' : List Byte} (hlen : b.length = b'.length)
    (hbytes : b.length = 10 → ∀ i, i < 10 → b[i]? = b'[i]?) (s : State) :
    exec (decodeInstr b) s = exec (decodeInstr b') s := by
  by_cases hten : b.length = responseLength
  · have hbb : b = b' := by
      apply List.ext_getElem?
      intro i
      by_cases hi : i < 10
      · exact hbytes hten i hi
      · have hb : b.length ≤ i := hten.trans_le (Nat.le_of_not_lt hi)
        rw [List.getElem?_eq_none hb, List.getElem?_eq_none (hlen ▸ hb)]
    rw [hbb]
  · have hten' : b'.length ≠ responseLength := hlen ▸ hten
    rw [decodeInstr_of_length_ne hten, decodeInstr_of_length_ne hten']
    simp only [exec, execDecode, decodeOp_of_length_ne hten, decodeOp_of_length_ne hten']

/-- The instruction of an OP that is none of the four operations' is read from OP alone. -/
theorem decode_congr_of_op_reserved {p q : RequestPort} (hop : p.op = q.op)
    (hres : p.op ∉ [0x1, 0x2, 0x3, 0x4]) : decode p = decode q := by
  obtain ⟨h1, h2, h3, h4⟩ : ¬q.op = 0x1 ∧ ¬q.op = 0x2 ∧ ¬q.op = 0x3 ∧ ¬q.op = 0x4 := by
    simpa [hop] using hres
  simp only [decode, hop, rowEncode_takes, rowChecksum_takes, rowDecode_takes, rowClassify_takes,
    if_neg h1, if_neg h2, if_neg h3, if_neg h4]

/-! ## The request -/

/-- Ports that agree on what their operation reads stand for instructions with one effect. -/
theorem exec_decode_congr {p q : RequestPort} (h : AgreeOnReadFields p q) (s : State) :
    exec (decode p) s = exec (decode q) s := by
  by_cases h1 : p.op = 0x1
  · obtain ⟨hcmd, hmode, hvlen, hvalue⟩ := h.encode h1
    rw [decode_of_op_encode h1, decode_of_op_encode (h.op ▸ h1), hcmd, hmode,
      valueBytes_congr hvlen hvalue]
  by_cases h2 : p.op = 0x2
  · obtain ⟨hblen, hlo, hhi, hbytes⟩ := h.checksum h2
    rw [decode_of_op_checksum h2, decode_of_op_checksum (h.op ▸ h2), ← hlo, ← hhi]
    exact congrArg _ (checksumOp_congr hblen hbytes s)
  by_cases h3 : p.op = 0x3
  · obtain ⟨hblen, hbytes⟩ := h.decode h3
    rw [decode_of_op_decode h3, decode_of_op_decode (h.op ▸ h3)]
    exact exec_decodeInstr_congr hblen hbytes s
  by_cases h4 : p.op = 0x4
  · rw [decode_of_op_classify h4, decode_of_op_classify (h.op ▸ h4), h.classify h4]
  · rw [decode_congr_of_op_reserved h.op (by simpa using ⟨h1, h2, h3, h4⟩)]

/-- Settles O12: both steps perform their request on one state, where the requests have one effect. -/
theorem unreadPortFieldsChangeNothing : Obligations.UnreadPortFieldsChangeNothing := by
  rintro p q rest s t hagree hs rfl
  rw [step_cons hs, step_cons (e := .request q) (rest := rest) rfl]
  simp only [perform, performRequest, exec_decode_congr hagree]

end Sys2Proof.Proofs
end

section
/-! The frames DECODE accepts (30_encoding.md R75, 40_frame_codec.md R113): passing every check of
DECODE is being one of the two valid frames of some six data bytes. -/

namespace Sys2Proof.Proofs
open Sys2Proof.Machine

/-! ## The checksum byte of a response layout -/

/-- The checksum of a layout is that of the valid frame of its data, whatever the other bytes (R77). -/
theorem sum8_responseBytes (head id csum tail : Byte) (d : Vector Byte 6) :
    sum8 (responseBytes head id d csum tail) responseSumFrom responseSumEnd
      = byteAt (validFrame id d) 8 := by
  simp [sum8, responseBytes, responseSumFrom, responseSumEnd, byteAt, validFrame, Nat.add_assoc]

theorem validFrame_eq_responseBytes (id : Byte) (d : Vector Byte 6) :
    validFrame id d = responseBytes frameHead id d (byteAt (validFrame id d) 8) frameTail := rfl

theorem responseData_validFrame (id : Byte) (d : Vector Byte 6) :
    responseData (validFrame id d) = d := by
  rw [validFrame_eq_responseBytes, responseData_responseBytes]

/-! ## Both directions of acceptance -/

/-- A valid frame passes every check: none of them reads a data byte but through the checksum. -/
theorem responseError_validFrame {id : Byte} (hid : id ∈ responseIds) (d : Vector Byte 6) :
    responseError (validFrame id d) = none :=
  responseError_eq_none.mpr ⟨rfl, rfl, sum8_responseBytes frameHead id _ frameTail d, hid, rfl⟩

/-- Only a valid frame passes every check: the checks fix each byte that is neither id nor data. -/
theorem eq_validFrame_of_responseError_eq_none {b : List Byte} (h : responseError b = none) :
    b = validFrame (byteAt b 1) (responseData b) := by
  obtain ⟨hlen, hhead, hsum, _, htail⟩ := responseError_eq_none.mp h
  have hbytes : b = responseBytes (byteAt b 0) (byteAt b 1) (responseData b) (byteAt b 8) (byteAt b 9) :=
    eq_responseBytes_of_length hlen
  have hcsum : byteAt b 8 = byteAt (validFrame (byteAt b 1) (responseData b)) 8 := by
    rw [← hsum, hbytes, sum8_responseBytes, ← hbytes]
  rwa [hhead, hcsum, htail, ← validFrame_eq_responseBytes] at hbytes

/-! ## The operation -/

theorem decodeOp_validFrame {id : Byte} (hid : id ∈ responseIds) (d : Vector Byte 6) (s : State) :
    decodeOp (validFrame id d) s = s.decoded (kindOf id) d := by
  simp only [decodeOp, responseError_validFrame hid, responseData_validFrame]
  rfl

/-- DECODE ends with OK only where no check fails: every failure records a decode error. -/
theorem responseError_eq_none_of_decodeOp_ok {b : List Byte} {s : State}
    (h : (decodeOp b s).status = .ok) : responseError b = none := by
  rcases decodeOp_cases b s with ⟨hnone, _⟩ | ⟨c, hc, hop⟩
  · exact hnone
  · have hok : c = .ok := by rwa [hop, State.fail_status] at h
    exact absurd (responseError_isDecodeError hc) (by simp [hok, Status.isDecodeError])

/-- Settles O22: `decodeOp` on a valid frame; conversely its success leaves no check failed, so the
buffer is the valid frame of its own id and data. -/
theorem decodeAcceptsExactlyTheLayout : Obligations.DecodeAcceptsExactlyTheLayout := by
  refine ⟨fun d s => ⟨?active, ?passive⟩, fun b s t hexec hok => ?_⟩
  case active => exact congrArg _ (decodeOp_validFrame (id := idActiveResponse) (by decide) d s)
  case passive => exact congrArg _ (decodeOp_validFrame (id := idPassiveResponse) (by decide) d s)
  obtain rfl : decodeOp b s = t := Host.Outcome.next.inj hexec
  have hnone := responseError_eq_none_of_decodeOp_ok hok
  have hframe := eq_validFrame_of_responseError_eq_none hnone
  obtain ⟨_, _, _, hid, _⟩ := responseError_eq_none.mp hnone
  have hids : byteAt b 1 = 0xC0 ∨ byteAt b 1 = 0xC5 := by
    simpa [responseIds, idActiveResponse, idPassiveResponse] using hid
  rcases hids with hactive | hpassive
  · exact ⟨responseData b, .inl (hactive ▸ hframe)⟩
  · exact ⟨responseData b, .inr (hpassive ▸ hframe)⟩

end Sys2Proof.Proofs
end

section
/-! The effects of 40_frame_codec.md: what ENCODE, CHECKSUM and DECODE write on each of their outcomes
(R101, R105, R110), and the obligations about them. -/

namespace Sys2Proof.Proofs
open Sys2Proof.Machine

/-! ## ENCODE -/

/-- A CommandFrame is its checksummed bytes, then the checksum and the tail (30_encoding.md R70). -/
theorem commandFrame_toList (cmd mode : Byte) (value : List Byte) :
    (commandFrame cmd mode value).toList = commandBody cmd mode value ++
      [sum8 (commandBody cmd mode value) commandSumFrom commandSumEnd, frameTail] := rfl

/-- The checksum of the body is that of the whole frame: its window ends with the body (R74). -/
theorem sum8_commandBody (cmd mode : Byte) (value : List Byte) :
    sum8 (commandBody cmd mode value) commandSumFrom commandSumEnd
      = sum8 (commandFrame cmd mode value).toList commandSumFrom commandSumEnd := by
  refine sum8_congr fun i _ hi => ?_
  have hbody : i < (commandBody cmd mode value).length := hi
  rw [commandFrame_toList, List.getElem?_append_left hbody]

/-- The frame ENCODE builds is laid out as 30_encoding.md R70 to R74 say. -/
theorem builtFrom_commandFrame (cmd mode : Byte) (value : List Byte) :
    BuiltFrom (commandFrame cmd mode value) cmd mode value where
  head := rfl
  commandId := rfl
  command := rfl
  modeByte := rfl
  slots i := by fin_cases i <;> rfl
  term0 := rfl
  term1 := rfl
  checksum := by
    have hwindow : commandSumEnd ≤ (commandFrame cmd mode value).toList.length := Nat.le_add_right 17 2
    exact (sum8_commandBody cmd mode value).trans (sum8_eq_ofNat_sumBytes hwindow)
  tail := rfl

theorem encodeOp_of_error_none {cmd : Byte} {value : List Byte} (h : encodeError cmd value = none)
    (mode : Byte) (s : State) :
    encodeOp cmd mode value s = s.encoded (commandFrame cmd mode value) := by
  simp only [encodeOp, h]
  rfl

theorem encodeOp_of_error {cmd : Byte} {value : List Byte} {c : Cause}
    (h : encodeError cmd value = some c) (mode : Byte) (s : State) :
    encodeOp cmd mode value s = s.encodeFailed c := by
  simp only [encodeOp, h]
  rfl

/-- Settles O13: the hypotheses of each clause decide `encodeError`, and `encodeOp` writes by it. -/
theorem encodeOperation : Obligations.EncodeOperation := by
  refine fun cmd mode value s => ⟨fun hcmd hlen => ?built, fun hcmd => ?badCommand,
    fun hcmd hlen => ?overflow⟩
  case built =>
    have hnone : encodeError cmd value = none := encodeError_eq_none.mpr ⟨hcmd, hlen⟩
    exact ⟨_, builtFrom_commandFrame cmd mode value, congrArg _ (encodeOp_of_error_none hnone mode s)⟩
  case badCommand => exact congrArg _ (encodeOp_of_error (encodeError_badCommand hcmd) mode s)
  case overflow => exact congrArg _ (encodeOp_of_error (encodeError_overflow hcmd hlen) mode s)

/-! ## CHECKSUM -/

theorem checksumOp_of_rangeOk {b : List Byte} {lo hi : Nat} (h : rangeOk b lo hi = true) (s : State) :
    checksumOp b lo hi s = (s.holdCsum (sum8 b lo hi)).finish := by simp [checksumOp, h]

theorem checksumOp_of_not_rangeOk {b : List Byte} {lo hi : Nat} (h : ¬ rangeOk b lo hi = true)
    (s : State) : checksumOp b lo hi s = s.clearCsum.fail .badRange .none := by simp [checksumOp, h]

/-- Settles O19: the condition on the range is `rangeOk`; it puts the range inside the buffer, where
`sum8` is the sum byte by byte. -/
theorem checksumOperation : Obligations.ChecksumOperation := by
  refine fun b lo hi s => ⟨fun hin => ?inside, fun hout => ?outside⟩
  case inside =>
    obtain ⟨hlo, hblen, hmax⟩ := hin
    rw [← sum8_eq_ofNat_sumBytes hblen]
    exact congrArg _ (checksumOp_of_rangeOk (rangeOk_iff.mpr ⟨hlo, hblen, hmax⟩) s)
  case outside => exact congrArg _ (checksumOp_of_not_rangeOk (mt rangeOk_iff.mp hout) s)

/-! ## DECODE -/

theorem decodeOp_of_error_none {b : List Byte} (h : responseError b = none) (s : State) :
    decodeOp b s = s.decoded (kindOf (byteAt b 1)) (responseData b) := by
  simp only [decodeOp, h]
  rfl

theorem decodeOp_of_error {b : List Byte} {c : Status} (h : responseError b = some c) (s : State) :
    decodeOp b s = s.decodeFailed c := by
  simp only [decodeOp, h]
  rfl

/-- The responseIds written out: every other byte fails the fourth check of DECODE (30_encoding.md R76). -/
theorem not_mem_responseIds {id : Byte} : id ∉ responseIds ↔ id ≠ 0xC0 ∧ id ≠ 0xC5 := by
  simp [responseIds, idActiveResponse, idPassiveResponse]

/-- The checks of DECODE in their order, with the checksum written out as a sum (40_frame_codec.md
R110). The sum may be so written after the length check, when its window is inside the buffer. -/
theorem responseError_eq_ite (b : List Byte) :
    responseError b =
      if b.length ≠ 10 then some .frameTooShort
      else if b.getD 0 0 ≠ 0xAA then some .badHeader
      else if BitVec.ofNat 8 (sumBytes b 2 8) ≠ b.getD 8 0 then some .badChecksum
      else if b.getD 1 0 ≠ 0xC0 ∧ b.getD 1 0 ≠ 0xC5 then some .unknownResponseId
      else if b.getD 9 0 ≠ 0xAB then some .badTail
      else none := by
  by_cases hlen : b.length = responseLength
  · have hwindow : responseSumEnd ≤ b.length := hlen ▸ (by decide)
    simp only [responseError, sum8_eq_ofNat_sumBytes hwindow, not_mem_responseIds]
    rfl
  · rw [responseError_of_length_ne hlen]
    exact (if_pos hlen).symm

/-- RX_KIND of a responseId, by the byte itself (30_encoding.md R76). -/
theorem kindOf_eq_ite (id : Byte) : kindOf id = if id = 0xC0 then .active else .passive := rfl

/-- Settles O20: in each branch of the checks `responseError` is known, and `decodeOp` writes by it. -/
theorem decodeOperation : Obligations.DecodeOperation := by
  intro b s
  have hcheck := responseError_eq_ite b
  refine congrArg Host.Outcome.next ?_
  rw [← kindOf_eq_ite]
  split_ifs at hcheck ⊢
  case neg => exact decodeOp_of_error_none hcheck s
  all_goals exact decodeOp_of_error hcheck s

end Sys2Proof.Proofs
end

section
/-! CLASSIFY (41_response_classifier.md): its result as a function of the four values it reads, EXPECT,
RXVALID, RX_KIND and RX_DATA[0] (R145), and the obligations about it. -/

namespace Sys2Proof.Proofs
open Sys2Proof.Machine

/-! ## The result of CLASSIFY -/

/-- STATUS and CLASS after CLASSIFY, from what it reads (R140); nothing where it stops at a register
without value. -/
def classifyVerdict (expect : Byte) (rxvalid : Bool) (kind : Option RxKind) (echo : Option Byte) :
    Option (Status × FrameClass) :=
  match rxvalid, kind, echo with
  | false, _, _ => some (.noValidFrame, .none)
  | true, some .active, _ => some (.ok, .activeReport)
  | true, some .passive, some b => some (.ok, if b = expect then .passiveReply else .stale)
  | true, some .passive, none => none
  | true, none, _ => none

/-- The verdict on the frame a state holds. -/
def heldVerdict (expect : Byte) (s : State) : Option (Status × FrameClass) :=
  classifyVerdict expect s.rxvalid s.rxKind (s.rxData.map (fun d => d[0]))

/-- The writes of CLASSIFY: STATUS, CAUSE and CLASS. -/
def classified (s : State) (v : Status × FrameClass) : State :=
  { s with status := v.1, cause := .none, cls := v.2 }

theorem finish_setClass_eq_classified (s : State) (c : FrameClass) :
    (s.setClass c).finish = classified s (.ok, c) := rfl

theorem fail_setClass_eq_classified (s : State) (c : FrameClass) (code : Status) :
    (s.setClass c).fail code .none = classified s (code, c) := rfl

/-- CLASSIFY completes exactly where there is a verdict, and then writes it and nothing else. -/
theorem exec_classify_eq_next_iff {e : Byte} {s t : State} :
    exec (.classify e) s = .next t ↔ ∃ v, heldVerdict e s = some v ∧ t = classified s v := by
  simp only [exec, heldVerdict]
  rcases execClassify_cases e s with ⟨hv, hc⟩ | ⟨hv, hk, hc⟩ | ⟨d, hv, hk, hd, hc⟩ | ⟨hv, hk, hc⟩ |
    ⟨hv, hk, hd, hc⟩
  · simp [hc, hv, classifyVerdict, fail_setClass_eq_classified, eq_comm]
  · simp [hc, hv, hk, classifyVerdict, finish_setClass_eq_classified, eq_comm]
  · simp [hc, hv, hk, hd, classifyVerdict, finish_setClass_eq_classified, echoClass, eq_comm]
  · simp [hc, hv, hk, classifyVerdict]
  · simp [hc, hv, hk, hd, classifyVerdict]

/-- Settles O28: the verdicts on the two frames are one verdict, and each state is left as it was but
for the writes of it. -/
theorem classifyReadsOnlyTheHeldFrame : Obligations.ClassifyReadsOnlyTheHeldFrame := by
  intro e s t s' t' hvalid hkind hecho hs ht
  obtain ⟨v, hv, rfl⟩ := exec_classify_eq_next_iff.mp hs
  obtain ⟨w, hw, rfl⟩ := exec_classify_eq_next_iff.mp ht
  have hverdict : heldVerdict e s = heldVerdict e t := by
    simp only [heldVerdict, hvalid, hkind, hecho]
  obtain rfl : v = w := Option.some.inj (hv.symm.trans (hverdict.trans hw))
  exact ⟨rfl, rfl, rfl, rfl⟩

/-! ## The outcomes -/

theorem exec_classify_of_not_rxvalid (e : Byte) {s : State} (hv : s.rxvalid = false) :
    exec (.classify e) s = .next (classified s (.noValidFrame, .none)) :=
  exec_classify_eq_next_iff.mpr ⟨_, by simp only [heldVerdict, hv, classifyVerdict], rfl⟩

theorem exec_classify_of_active (e : Byte) {s : State} (hv : s.rxvalid = true)
    (hk : s.rxKind = some .active) :
    exec (.classify e) s = .next (classified s (.ok, .activeReport)) :=
  exec_classify_eq_next_iff.mpr ⟨_, by simp only [heldVerdict, hv, hk, classifyVerdict], rfl⟩

theorem exec_classify_of_passive (e : Byte) {s : State} {d : Vector Byte 6} (hv : s.rxvalid = true)
    (hk : s.rxKind = some .passive) (hd : s.rxData = some d) :
    exec (.classify e) s = .next (classified s (.ok, echoClass d e)) :=
  exec_classify_eq_next_iff.mpr
    ⟨_, by simp only [heldVerdict, hv, hk, hd, Option.map_some, classifyVerdict, echoClass], rfl⟩

theorem echoClass_of_eq {d : Vector Byte 6} {e : Byte} (h : d[0] = e) : echoClass d e = .passiveReply :=
  if_pos h

theorem echoClass_of_ne {d : Vector Byte 6} {e : Byte} (h : d[0] ≠ e) : echoClass d e = .stale :=
  if_neg h

/-- Settles O26: one outcome lemma per clause; the echo decides the class of a passive frame. -/
theorem classifyOperation : Obligations.ClassifyOperation := by
  refine fun e s => ⟨exec_classify_of_not_rxvalid e, exec_classify_of_active e, fun d hv hk hd => ?_⟩
  have hpassive := exec_classify_of_passive e hv hk hd
  exact ⟨fun heq => echoClass_of_eq heq ▸ hpassive, fun hne => echoClass_of_ne hne ▸ hpassive⟩

/-! ## The derived outputs -/

@[simp] theorem response_isActive_iff (s : State) :
    s.response.isActive = true ↔ s.cls = .activeReport := decide_eq_true_iff

@[simp] theorem response_isPassiveReply_iff (s : State) :
    s.response.isPassiveReply = true ↔ s.cls = .passiveReply := decide_eq_true_iff

/-- Settles O27: the outputs compare CLASS, and CLASS after a performed CLASSIFY is known from the kind
and the echo of the held frame. -/
theorem classifyOutputsAreThePredicates : Obligations.ClassifyOutputsAreThePredicates := by
  refine ⟨fun e s k d hv hk hd => ?_, fun s => ⟨response_isActive_iff s, response_isPassiveReply_iff s⟩⟩
  cases k
  case active =>
    refine ⟨_, exec_classify_of_active e hv hk, rfl, ?_⟩
    simp [classified, hv, hk, hd]
  case passive =>
    refine ⟨_, exec_classify_of_passive e hv hk hd, rfl, ?_⟩
    by_cases hecho : d[0] = e
    · simp [classified, echoClass_of_eq hecho, hecho, hv, hk, hd]
    · simp [classified, echoClass_of_ne hecho, hecho, hv, hk, hd]

end Sys2Proof.Proofs
end

section
/-! How operations fail (60_exceptions.md R160 to R168): a failure is known from the row, STATUS and
CAUSE (R162), and a reserved OP only reports BAD_OP (R167). -/

namespace Sys2Proof.Proofs
open Sys2Proof.Machine

/-! ## What a failure leaves -/

/-- The writes of a failing operation beside STATUS and CAUSE, by its row: ENCODE, CHECKSUM and DECODE
give up their data, DECODE and CLASSIFY the class, a reserved OP nothing. -/
def clearForRow (r : OpRow) (s : State) : State :=
  if r = rowEncode then s.clearTx
  else if r = rowChecksum then s.clearCsum
  else if r = rowDecode then (s.setClass .none).clearRx
  else if r = rowClassify then s.setClass .none
  else s

theorem clearForRow_encode (s : State) : clearForRow rowEncode s = s.clearTx := rfl
theorem clearForRow_checksum (s : State) : clearForRow rowChecksum s = s.clearCsum := rfl
theorem clearForRow_decode (s : State) :
    clearForRow rowDecode s = (s.setClass .none).clearRx := rfl
theorem clearForRow_classify (s : State) : clearForRow rowClassify s = s.setClass .none := rfl

theorem clearForRow_reserved {r : OpRow}
    (h : r ∈ [rowReservedZero, rowReservedFive, rowReservedSixSeven, rowReservedHigh]) (s : State) :
    clearForRow r s = s := by
  simp only [List.mem_cons, List.not_mem_nil, or_false] at h
  rcases h with rfl | rfl | rfl | rfl <;> rfl

theorem encodeOp_failed {cmd mode : Byte} {value : List Byte} {s t : State}
    (ht : t = encodeOp cmd mode value s) (hfail : t.status ≠ .ok) :
    t = s.clearTx.fail t.status t.cause := by
  rcases encodeOp_cases cmd mode value s with ⟨_, hop⟩ | ⟨c, _, hop⟩ <;> rw [hop] at ht <;> subst ht
  · exact absurd (State.finish_status _) hfail
  · rfl

theorem checksumOp_failed {b : List Byte} {lo hi : Nat} {s t : State}
    (ht : t = checksumOp b lo hi s) (hfail : t.status ≠ .ok) :
    t = s.clearCsum.fail t.status t.cause := by
  rcases checksumOp_cases b lo hi s with ⟨_, hop⟩ | ⟨_, hop⟩ <;> rw [hop] at ht <;> subst ht
  · exact absurd (State.finish_status _) hfail
  · rfl

theorem decodeOp_failed {b : List Byte} {s t : State}
    (ht : t = decodeOp b s) (hfail : t.status ≠ .ok) :
    t = ((s.setClass .none).clearRx).fail t.status t.cause := by
  rcases decodeOp_cases b s with ⟨_, hop⟩ | ⟨c, _, hop⟩ <;> rw [hop] at ht <;> subst ht
  · exact absurd (State.finish_status _) hfail
  · rfl

/-- The one failure of a CLASSIFY that completes is NO_VALID_FRAME; on a held frame it ends with OK. -/
theorem execClassify_failed {e : Byte} {s t : State}
    (ht : execClassify e s = .next t) (hfail : t.status ≠ .ok) :
    t = (s.setClass .none).fail t.status t.cause := by
  rcases execClassify_cases e s with
    ⟨_, hc⟩ | ⟨_, _, hc⟩ | ⟨_, _, _, _, hc⟩ | ⟨_, _, hc⟩ | ⟨_, _, _, hc⟩ <;> rw [hc] at ht <;> cases ht
  case inl => rfl
  case inr.inl => exact absurd (State.finish_status _) hfail
  case inr.inr.inl => exact absurd (State.finish_status _) hfail

/-- A failed operation leaves a state that is known from its row, STATUS and CAUSE: no operand is in it
(R162). -/
theorem exec_failed {i : Instr} {s t : State} (h : exec i s = .next t) (hfail : t.status ≠ .ok) :
    t = (clearForRow i.row s).fail t.status t.cause := by
  rcases exec_next_cases h with
    ⟨hrow, _, _, _, ht⟩ | ⟨hrow, _, _, _, ht⟩ | ⟨hrow, _, ht⟩ | ⟨hrow, _, ht⟩ | ⟨hrow, rfl⟩
  · rw [hrow, clearForRow_encode]
    exact encodeOp_failed ht hfail
  · rw [hrow, clearForRow_checksum]
    exact checksumOp_failed ht hfail
  · rw [hrow, clearForRow_decode]
    exact decodeOp_failed ht hfail
  · rw [hrow, clearForRow_classify]
    exact execClassify_failed ht hfail
  · rw [clearForRow_reserved hrow]
    rfl

/-- Settles O25: both failures leave the state that their common row, STATUS and CAUSE determine. -/
theorem failureRecordsOnlyStatusAndCause : Obligations.FailureRecordsOnlyStatusAndCause := by
  intro s t u i j hrow ht hu hfail hstatus hcause
  calc t = (clearForRow i.row s).fail t.status t.cause := exec_failed ht hfail
    _ = (clearForRow j.row s).fail u.status u.cause := by rw [hrow, hstatus, hcause]
    _ = u := (exec_failed hu (hstatus ▸ hfail)).symm

/-! ## Reserved OP values -/

/-- A port whose OP is none of the four operations' stands for the reserved operation (30_encoding.md
R79). -/
theorem exec_decode_of_op_reserved {p : RequestPort} (h : p.op ∉ [0x1, 0x2, 0x3, 0x4]) (s : State) :
    exec (decode p) s = .next (reservedOp s) := by
  rcases decode_cases p with
    ⟨hop, _⟩ | ⟨hop, _⟩ | ⟨hop, _⟩ | ⟨hop, _⟩ | ⟨_, hd⟩ | ⟨_, hd⟩ | ⟨_, hd⟩ | ⟨_, hd⟩
  · simp [hop] at h
  · simp [hop] at h
  · simp [hop] at h
  · simp [hop] at h
  · rw [hd]; rfl
  · rw [hd]; rfl
  · rw [hd]; rfl
  · rw [hd]; rfl

theorem not_mem_operations_of_reserved {op : BitVec 4}
    (h : op ∈ [0x0, 0x5, 0x6, 0x7, 0x8, 0x9, 0xA, 0xB, 0xC, 0xD, 0xE, 0xF]) :
    op ∉ [0x1, 0x2, 0x3, 0x4] := by
  revert op; decide

/-- Settles O30: every reserved instruction, and every port with a reserved OP, is `reservedOp`, which
writes STATUS and CAUSE only. -/
theorem reservedOpReportsBadOp : Obligations.ReservedOpReportsBadOp := by
  refine ⟨fun s i hi => ?zeroFive, fun s low => rfl, fun s low => rfl, fun s p rest hs hop => ?request⟩
  case zeroFive =>
    simp only [List.mem_cons, List.not_mem_nil, or_false] at hi
    rcases hi with rfl | rfl <;> rfl
  case request =>
    have hres := not_mem_operations_of_reserved hop
    rw [step_cons hs]
    exact congrArg respond (exec_decode_of_op_reserved hres _)

end Sys2Proof.Proofs
end

section
/-! Reset and hazards (70_reset_and_hazards.md): what a step on RST leaves (R190), and to which events
the writes of CLASS belong (R198). -/

namespace Sys2Proof.Proofs
open Sys2Proof.Machine

variable {s t : State} {p : RequestPort} {rest : List HostEvent}

/-! ## The reset event -/

theorem step_of_rst {q : Option RequestPort} (hs : s.pending = .rst q :: rest) :
    step s = .next { s with pending := rest }.resetEvent := step_cons hs

/-- Settles O1: the step on RST is `resetEvent`, whose registers the state's laws give. -/
theorem resetEventGivesResetTable : Obligations.ResetEventGivesResetTable := by
  intro s q rest hs
  refine ⟨_, step_of_rst hs, ?_⟩
  simp [Status.code, Cause.code, FrameClass.code]

/-! ## The operation of a request, by its OP -/

theorem decode_row_eq_rowDecode_iff : (decode p).row = rowDecode ↔ p.op = 0x3 := by
  constructor
  · exact fun hrow => (rowDecode_takes p.op).mp (hrow ▸ decode_row_takes)
  · exact fun hop => by rw [decode_of_op_decode hop, row_decodeInstr]

theorem op_eq_of_decode_row_eq_rowClassify (hrow : (decode p).row = rowClassify) : p.op = 0x4 :=
  (rowClassify_takes p.op).mp (hrow ▸ decode_row_takes)

/-- A step on a request is `exec` of the decoded instruction and then the response. -/
theorem step_request_next (hs : s.pending = .request p :: rest) (h : step s = .next t) :
    ∃ u, exec (decode p) { s with pending := rest } = .next u ∧ t = u.respond :=
  performRequest_next_cases ((step_cons hs).symm.trans h)

/-! ## CLASS -/

theorem decodeOp_cls (b : List Byte) (s : State) : (decodeOp b s).cls = .none := by
  rcases decodeOp_cases b s with ⟨_, ht⟩ | ⟨c, _, ht⟩ <;> rw [ht]
  · simp
  · simp

/-- Whichever row the responseId selects, a DECODE request is performed on the bytes of its buffer. -/
theorem exec_decodeInstr (b : List Byte) (s : State) :
    exec (decodeInstr b) s = .next (decodeOp b s) := by
  unfold decodeInstr
  split_ifs with hlen hactive hpassive
  case pos => rw [exec, execActiveResponse, ← hactive, ← eq_responseBytes_of_length hlen]
  case pos => rw [exec, execPassiveResponse, ← hpassive, ← eq_responseBytes_of_length hlen]
  case neg => rfl
  case neg => rfl

theorem step_cls_of_op_decode (hs : s.pending = .request p :: rest) (h : step s = .next t)
    (hop : p.op = 0x3) : t.cls = .none := by
  obtain ⟨u, hu, rfl⟩ := step_request_next hs h
  rw [decode_of_op_decode hop, exec_decodeInstr] at hu
  cases hu
  exact decodeOp_cls p.buf _

/-- By the footprints (10_state.md R37), no operation but DECODE and CLASSIFY writes CLASS. -/
theorem step_cls_of_op_ne (hs : s.pending = .request p :: rest) (h : step s = .next t)
    (hdecode : p.op ≠ 0x3) (hclassify : p.op ≠ 0x4) : s.cls = t.cls := by
  obtain ⟨u, hu, rfl⟩ := step_request_next hs h
  obtain ⟨_, _, hcls, _, _⟩ := operationsKeepTheirFootprint _ _ _ hu
  exact hcls (mt decode_row_eq_rowDecode_iff.mp hdecode) (mt op_eq_of_decode_row_eq_rowClassify hclassify)

/-- By the footprints (10_state.md R37), no operation but DECODE writes the held response frame. -/
theorem step_sameRx_of_op_ne (hs : s.pending = .request p :: rest) (h : step s = .next t)
    (hdecode : p.op ≠ 0x3) : SameRx s t := by
  obtain ⟨u, hu, rfl⟩ := step_request_next hs h
  obtain ⟨_, hrx, _, _, _⟩ := operationsKeepTheirFootprint _ _ _ hu
  exact hrx (mt decode_row_eq_rowDecode_iff.mp hdecode)

/-- Settles O36: a read writes nothing, and a request writes CLASS and the held frame only by its OP. -/
theorem classificationBelongsToHeldFrame : Obligations.ClassificationBelongsToHeldFrame := by
  refine fun s t h => ⟨fun hne => ?changed, fun p rest hs hop => ?decode, fun p rest hs hop => ?encode⟩
  case changed =>
    rcases step_next_cases h with ⟨p, rest, _, hs, _, _⟩ | ⟨q, rest, hs, _⟩ | ⟨_, _, _, rfl⟩
    · by_cases hdecode : p.op = 0x3
      · exact .inr ⟨p, rest, hs, .inl hdecode⟩
      by_cases hclassify : p.op = 0x4
      · exact .inr ⟨p, rest, hs, .inr hclassify⟩
      · exact absurd (step_cls_of_op_ne hs h hdecode hclassify) hne
    · exact .inl ⟨q, rest, hs⟩
    · exact absurd rfl hne
  case decode => exact step_cls_of_op_decode hs h hop
  case encode =>
    have hdecode : p.op ≠ 0x3 := by simp [hop]
    have hclassify : p.op ≠ 0x4 := by simp [hop]
    exact ⟨step_sameRx_of_op_ne hs h hdecode, step_cls_of_op_ne hs h hdecode hclassify⟩

end Sys2Proof.Proofs
end

section
/-! The decoder and the encoder (30_encoding.md R78 to R83): the two spellings of a request have one
encoding, one decoding and one effect; and the obligations about them. -/

namespace Sys2Proof.Proofs
open Sys2Proof.Machine

/-! ## The rows of the operation map -/

theorem row_mem_requestRows (i : Instr) : i.row ∈ requestRows := by
  cases i <;> simp [Instr.row, requestRows]

/-- The masks and patterns of the request rows overlap on no OP value. -/
theorem filter_takes_eq_singleton {op : BitVec 4} {r : OpRow} (hr : r ∈ requestRows)
    (htakes : r.takes op = true) : requestRows.filter (fun r => r.takes op) = [r] := by
  revert r op; decide

/-- Settles O8: the decoded instruction's row takes OP, and no two rows share an OP value. -/
theorem decodedRowIsTheOnlyRowOfOp : Obligations.DecodedRowIsTheOnlyRowOfOp :=
  fun _ => filter_takes_eq_singleton (row_mem_requestRows _) decode_row_takes

/-- Settles O7: each written-out port is evaluated. -/
theorem writtenOutWordsDecode : Obligations.WrittenOutWordsDecode := by
  unfold Obligations.WrittenOutWordsDecode
  decide

/-! ## Decoding the two kinds of encoded request -/

theorem valueBytes_encodeRequest (cmd mode : Byte) {value : List Byte} (h : valueFits value = true) :
    (encodeRequest cmd mode value).valueBytes = value := by
  have hlen : value.length < 16 := Nat.lt_succ_of_le (valueFits_iff.mp h)
  have hvlen : (encodeRequest cmd mode value).vlen.toNat = value.length := Nat.mod_eq_of_lt hlen
  rw [RequestPort.valueBytes, hvlen]
  exact valueLines_take h

theorem decode_encodeRequest (cmd mode : Byte) {value : List Byte} (h : valueFits value = true) :
    decode (encodeRequest cmd mode value) = encodeInstr cmd mode value := by
  rw [decode_of_op_encode rfl, valueBytes_encodeRequest cmd mode h]
  rfl

theorem decode_decodeRequest (buf : List Byte) : decode (decodeRequest buf) = decodeInstr buf :=
  decode_of_op_decode rfl

/-- Ten bytes with responseId 0xC0 are spelt as the row ACTIVE_RESPONSE (R76). -/
theorem decodeInstr_activeResponse (head : Byte) (data : Vector Byte 6) (csum tail : Byte) :
    decodeInstr (responseBytes head idActiveResponse data csum tail)
      = .activeResponse head data csum tail :=
  congrArg (Instr.activeResponse head · csum tail) (responseData_responseBytes head _ data csum tail)

/-- Ten bytes with responseId 0xC5 are spelt as the row PASSIVE_RESPONSE (R76). -/
theorem decodeInstr_passiveResponse (head : Byte) (data : Vector Byte 6) (csum tail : Byte) :
    decodeInstr (responseBytes head idPassiveResponse data csum tail)
      = .passiveResponse head data csum tail :=
  congrArg (Instr.passiveResponse head · csum tail) (responseData_responseBytes head _ data csum tail)

/-! ## Spellings -/

theorem spelling_encodeInstr (cmd mode : Byte) (value : List Byte) :
    (encodeInstr cmd mode value).spelling = encodeInstr cmd mode value := by
  unfold encodeInstr
  split_ifs with h₁ h₂ h₃ h₄ h₅ h₆
  case neg => simp [Instr.spelling, encodeInstr, h₁, h₂, h₃, h₄, h₅, h₆]
  all_goals rfl

theorem spelling_decodeInstr (b : List Byte) : (decodeInstr b).spelling = decodeInstr b := by
  unfold decodeInstr
  split_ifs with hlen hactive hpassive
  case neg => rw [Instr.spelling, decodeInstr, if_pos hlen, if_neg hactive, if_neg hpassive]
  case neg => exact decodeInstr_of_length_ne hlen
  all_goals rfl

/-- The decoder's spelling is final. -/
theorem spelling_spelling (i : Instr) : i.spelling.spelling = i.spelling := by
  cases i
  case encode cmd mode value => exact spelling_encodeInstr cmd mode value
  case decode buf => exact spelling_decodeInstr buf
  all_goals rfl

theorem encode_decodeInstr (b : List Byte) : encode (decodeInstr b) = decodeRequest b := by
  unfold decodeInstr
  split_ifs with hlen hactive hpassive
  case pos => rw [encode, ← hactive, ← eq_responseBytes_of_length hlen]
  case pos => rw [encode, ← hpassive, ← eq_responseBytes_of_length hlen]
  case neg => rfl
  case neg => rfl

theorem exec_encodeInstr (cmd mode : Byte) (value : List Byte) (s : State) :
    exec (encodeInstr cmd mode value) s = .next (encodeOp cmd mode value s) := by
  unfold encodeInstr
  split_ifs with h₁ h₂ h₃ h₄ h₅ h₆
  case neg => rfl
  all_goals subst cmd; rfl

/-- Settles O11: only ENCODE and DECODE have a second spelling, and it performs their operation. -/
theorem spellingsHaveOneMeaning : Obligations.SpellingsHaveOneMeaning := by
  intro i s
  cases i
  case encode cmd mode value => exact exec_encodeInstr cmd mode value s
  case decode buf => exact exec_decodeInstr buf s
  all_goals rfl

/-! ## Round trips -/

/-- Decoding an encoded instruction gives its spelling: the request of each row is decoded in turn. -/
theorem decode_encode {i : Instr} (h : WellFormed i) : decode (encode i) = i.spelling := by
  cases i
  case encode cmd mode value => exact decode_encodeRequest cmd mode h
  case checksum buf lo hi => exact decode_of_op_checksum rfl
  case decode buf => exact decode_decodeRequest buf
  case classify expect => exact decode_of_op_classify rfl
  case reservedZero => rfl
  case reservedFive => rfl
  case reservedSixSeven low => revert low; decide
  case reservedHigh low => revert low; decide
  case communicationMode mode value => exact decode_encodeRequest cmdCommunicationMode mode h
  case query mode value => exact decode_encodeRequest cmdQuery mode h
  case deviceId mode value => exact decode_encodeRequest cmdDeviceId mode h
  case workMode mode value => exact decode_encodeRequest cmdWorkMode mode h
  case firmware mode value => exact decode_encodeRequest cmdFirmware mode h
  case dutyCycle mode value => exact decode_encodeRequest cmdDutyCycle mode h
  case activeResponse head data csum tail =>
    exact (decode_decodeRequest _).trans (decodeInstr_activeResponse head data csum tail)
  case passiveResponse head data csum tail =>
    exact (decode_decodeRequest _).trans (decodeInstr_passiveResponse head data csum tail)

/-- Settles O9: by `decode_encode`; the spelling is idempotent. -/
theorem decodeOfEncodeGivesInstruction : Obligations.DecodeOfEncodeGivesInstruction := by
  intro i hwf
  exact ⟨decode_encode hwf, (decode_encode hwf).trans, spelling_spelling i⟩

/-- What the decoder gives is spelt as the decoder spells it. -/
theorem spelling_decode (p : RequestPort) : (decode p).spelling = decode p := by
  rcases decode_cases p with
    ⟨_, hd⟩ | ⟨_, hd⟩ | ⟨_, hd⟩ | ⟨_, hd⟩ | ⟨_, hd⟩ | ⟨_, hd⟩ | ⟨_, hd⟩ | ⟨_, hd⟩ <;> rw [hd]
  case inl => exact spelling_encodeInstr p.cmd p.mode p.valueBytes
  case inr.inr.inl => exact spelling_decodeInstr p.buf
  all_goals rfl

theorem wellFormed_encodeInstr (cmd mode : Byte) (value : List Byte) :
    wellFormed (encodeInstr cmd mode value) = valueFits value := by
  unfold encodeInstr; split_ifs <;> rfl

theorem wellFormed_decodeInstr {b : List Byte} (h : bufFits b = true) :
    wellFormed (decodeInstr b) = true := by
  unfold decodeInstr
  split_ifs
  case pos => rfl
  case pos => rfl
  case neg => exact h
  case neg => exact h

/-- VLEN is four bits, so a value list always fits; a buffer fits by its BLEN. -/
theorem wellFormed_decode {p : RequestPort} (h : p.blen ≤ Config.bufMax) : WellFormed (decode p) := by
  have hbuf : bufFits p.buf = true := bufFits_iff.mpr h
  unfold WellFormed
  rcases decode_cases p with
    ⟨_, hd⟩ | ⟨_, hd⟩ | ⟨_, hd⟩ | ⟨_, hd⟩ | ⟨_, hd⟩ | ⟨_, hd⟩ | ⟨_, hd⟩ | ⟨_, hd⟩ <;> rw [hd]
  case inl => exact (wellFormed_encodeInstr _ _ _).trans (valueFits_iff.mpr valueBytes_length_le)
  case inr.inl => exact hbuf
  case inr.inr.inl => exact wellFormed_decodeInstr hbuf
  all_goals rfl

/-- A DECODE request is the one whose operands may be too long to be well formed; its buffer is decoded
again whatever its length. -/
theorem decode_encode_decode (p : RequestPort) : decode (encode (decode p)) = decode p := by
  rcases decode_cases p with
    ⟨_, hd⟩ | ⟨_, hd⟩ | ⟨_, hd⟩ | ⟨_, hd⟩ | ⟨_, hd⟩ | ⟨_, hd⟩ | ⟨_, hd⟩ | ⟨_, hd⟩
  case inr.inl => rw [hd]; exact decode_of_op_checksum rfl
  case inr.inr.inl => rw [hd, encode_decodeInstr, decode_decodeRequest]
  all_goals
    refine (decode_encode ?_).trans (spelling_decode p)
    rw [hd]
  case inl => exact (wellFormed_encodeInstr _ _ _).trans (valueFits_iff.mpr valueBytes_length_le)
  all_goals rfl

/-- Settles O10: by `decode_encode_decode` and `wellFormed_decode`. -/
theorem encodeOfDecodeKeepsInstruction : Obligations.EncodeOfDecodeKeepsInstruction :=
  fun p => ⟨decode_encode_decode p, wellFormed_decode⟩

end Sys2Proof.Proofs
end

section
/-! The frames of 30_encoding.md as the operations use them: the command frame of each row and its
checksum (R72 to R74), the response rows, and the buffers that are rejected unread (R80). -/

namespace Sys2Proof.Proofs
open Sys2Proof.Machine

/-! ## The command rows -/

/-- A command row is the ENCODE of its own command byte, which is legal (R72). -/
theorem exec_commandRow {r : (Byte → List Byte → Instr) × Byte}
    (hr : r ∈ [(Instr.communicationMode, (0x02 : Byte)), (Instr.query, 0x04), (Instr.deviceId, 0x05),
      (Instr.workMode, 0x06), (Instr.firmware, 0x07), (Instr.dutyCycle, 0x08)])
    (mode : Byte) (value : List Byte) (s : State) :
    r.2 ∈ [0x02, 0x04, 0x05, 0x06, 0x07, (0x08 : Byte)] ∧
      exec (r.1 mode value) s = exec (.encode r.2 mode value) s := by
  simp only [List.mem_cons, List.not_mem_nil, or_false] at hr
  rcases hr with rfl | rfl | rfl | rfl | rfl | rfl <;> exact ⟨by decide, rfl⟩

/-- Settles O14: each row is an ENCODE, whose three outcomes are known. -/
theorem commandRowsBuildTheirFrame : Obligations.CommandRowsBuildTheirFrame := by
  refine fun mode value s => ⟨fun r hr => ?_, fun cmd => (encodeOperation cmd mode value s).2.1⟩
  obtain ⟨hcmd, hexec⟩ := exec_commandRow hr mode value s
  obtain ⟨hbuilt, _, hoverflow⟩ := encodeOperation r.2 mode value s
  rw [hexec]
  exact ⟨hbuilt hcmd, hoverflow hcmd⟩

/-! ## The command checksum -/

/-- Zeros after the end of a list add nothing to its sum (R73). -/
theorem sum_getD_range {l : List Byte} {n : Nat} (h : l.length ≤ n) :
    ((List.range n).map (fun i => (l.getD i 0).toNat)).sum = (l.map BitVec.toNat).sum := by
  induction l generalizing n with
  | nil => simp
  | cons x xs ih =>
    obtain ⟨m, rfl⟩ : ∃ m, n = m + 1 := Nat.exists_eq_add_one.mpr (Nat.zero_lt_of_lt h)
    have hxs := ih (Nat.le_of_succ_le_succ h)
    simp only [List.range_succ_eq_map, List.map_cons, List.map_map, List.sum_cons]
    exact congrArg _ hxs

/-- The checksum window of a command frame: the commandId, the command and the mode byte, the eleven
slots, and the two terminators (R74). -/
theorem commandBody_window (cmd mode : Byte) (value : List Byte) :
    ((commandBody cmd mode value).take commandSumEnd).drop commandSumFrom =
      [frameCommandId, cmd, mode] ++ (List.range 11).map (payloadSlot value) ++
        [frameTerminator, frameTerminator] := rfl

/-- The constants of the window sum to 0xB4 + 0xFF + 0xFF, which is 0xB2 modulo 256 (40_frame_codec.md
R102). -/
theorem sum8_commandBody_closed (cmd mode : Byte) {value : List Byte} (h : value.length ≤ 10) :
    sum8 (commandBody cmd mode value) commandSumFrom commandSumEnd =
      BitVec.ofNat 8 (0xB2 + cmd.toNat + mode.toNat + (value.map BitVec.toNat).sum) := by
  have hslots : (((List.range 11).map (payloadSlot value)).map BitVec.toNat).sum
      = (value.map BitVec.toNat).sum := by
    rw [List.map_map]
    exact sum_getD_range (h.trans (by decide))
  rw [sum8, commandBody_window, List.map_append, List.map_append, List.sum_append, List.sum_append, hslots]
  have hid : frameCommandId.toNat = 0xB4 := rfl
  have hterm : frameTerminator.toNat = 0xFF := rfl
  apply BitVec.eq_of_toNat_eq
  simp only [BitVec.toNat_ofNat, List.map_cons, List.map_nil, List.sum_cons, List.sum_nil, hid, hterm]
  omega

/-- A legal command with at most ten value bytes ends with its frame held. -/
theorem exec_encode_of_legal {cmd : Byte} {value : List Byte}
    (hcmd : cmd ∈ [0x02, 0x04, 0x05, 0x06, 0x07, (0x08 : Byte)]) (hlen : value.length ≤ 10)
    (mode : Byte) (s : State) :
    exec (.encode cmd mode value) s = .next (s.encoded (commandFrame cmd mode value)) :=
  congrArg _ (encodeOp_of_error_none (encodeError_eq_none.mpr ⟨hcmd, hlen⟩) mode s)

/-- Settles O15: byte 17 of the frame is the checksum of its body. -/
theorem encodedChecksumClosedForm : Obligations.EncodedChecksumClosedForm :=
  fun cmd mode _ s hcmd hlen =>
    ⟨_, exec_encode_of_legal hcmd hlen mode s, sum8_commandBody_closed cmd mode hlen⟩

/-- Settles O16: the window [1, 17) lies inside every buffer of 19 bytes, and byte 17 of the frame is
its sum. -/
theorem checksumOfBuiltFrameIsItsByte : Obligations.ChecksumOfBuiltFrameIsItsByte := by
  intro cmd mode value s u hcmd hlen
  refine ⟨_, exec_encode_of_legal hcmd hlen mode s, ?_⟩
  have hmax : 17 ≤ Config.bufMax := Nat.le_trans (by decide) nineteen_le_bufMax
  have hrange : rangeOk (commandFrame cmd mode value).toList 1 17 = true :=
    rangeOk_iff.mpr ⟨by decide, Nat.le_add_right 17 2, hmax⟩
  have hsum : sum8 (commandFrame cmd mode value).toList 1 17 = (commandFrame cmd mode value)[17] :=
    (sum8_commandBody cmd mode value).symm
  rw [← hsum]
  exact congrArg Host.Outcome.next (checksumOp_of_rangeOk hrange u)

/-! ## The arguments of a frame -/

/-- A successful ENCODE passed its checks, and the frame it holds is that of its arguments. -/
theorem builtFrom_of_exec_encode {cmd mode : Byte} {value : List Byte} {s : State} {f : Vector Byte 19}
    (h : exec (.encode cmd mode value) s = .next (s.encoded f)) :
    value.length ≤ valueMax ∧ BuiltFrom f cmd mode value := by
  have hop : encodeOp cmd mode value s = s.encoded f := Host.Outcome.next.inj h
  rcases encodeOp_cases cmd mode value s with ⟨hnone, ht⟩ | ⟨c, _, ht⟩
  · have hf : commandFrame cmd mode value = f :=
      Option.some.inj (congrArg State.txbuf (ht.symm.trans hop))
    exact ⟨(encodeError_eq_none.mp hnone).2, hf ▸ builtFrom_commandFrame cmd mode value⟩
  · have hstatus : Status.invalidArgument = .ok := congrArg State.status (ht.symm.trans hop)
    cases hstatus

/-- The value bytes of a frame, zeros after their end included, are those of its slots (R73). -/
theorem getD_eq_of_builtFrom {f : Vector Byte 19} {cmd cmd' mode mode' : Byte} {value value' : List Byte}
    (h : BuiltFrom f cmd mode value) (h' : BuiltFrom f cmd' mode' value')
    (hlen : value.length ≤ valueMax) (hlen' : value'.length ≤ valueMax) (i : Nat) :
    value.getD i 0 = value'.getD i 0 := by
  by_cases hi : i < 11
  · exact (h.slots ⟨i, hi⟩).symm.trans (h'.slots ⟨i, hi⟩)
  · have hmax : valueMax ≤ i := Nat.le_trans (by decide) (Nat.le_of_not_lt hi)
    rw [List.getD_eq_default _ _ (hlen.trans hmax), List.getD_eq_default _ _ (hlen'.trans hmax)]

theorem eq_of_length_eq_of_getD_eq {l l' : List Byte} (hlen : l.length = l'.length)
    (h : ∀ i, l.getD i 0 = l'.getD i 0) : l = l' := by
  apply List.ext_getElem hlen
  intro i hi hi'
  rw [← List.getD_eq_getElem l 0 hi, ← List.getD_eq_getElem l' 0 hi', h]

/-- Settles O17: each argument stands in its own byte of the frame. -/
theorem frameDeterminesItsArguments : Obligations.FrameDeterminesItsArguments := by
  intro cmd cmd' mode mode' value value' s s' f h h'
  obtain ⟨hlen, hbuilt⟩ := builtFrom_of_exec_encode h
  obtain ⟨hlen', hbuilt'⟩ := builtFrom_of_exec_encode h'
  have hvalue := getD_eq_of_builtFrom hbuilt hbuilt' hlen hlen'
  exact ⟨hbuilt.command.symm.trans hbuilt'.command, hbuilt.modeByte.symm.trans hbuilt'.modeByte,
    hvalue, fun heq => eq_of_length_eq_of_getD_eq heq hvalue⟩

/-! ## Response frames -/

/-- The checksum byte of a valid frame is the sum of its data field (R77). -/
theorem validFrame_eq_responseBytes_sum (id : Byte) (d : Vector Byte 6) :
    validFrame id d =
      responseBytes 0xAA id d (BitVec.ofNat 8 (d.toList.map BitVec.toNat).sum) 0xAB := by
  have hdata : d.toList = [d[0], d[1], d[2], d[3], d[4], d[5]] :=
    congrArg Vector.toList (responseData_validFrame id d).symm
  simp [hdata, validFrame, responseBytes, Nat.add_assoc]

/-- Settles O23: a response row is the DECODE of its bytes, which are the valid frame of the data where
head, checksum and tail fit. -/
theorem responseRowsHoldTheirFrame : Obligations.ResponseRowsHoldTheirFrame := by
  refine ⟨fun d s => ⟨?active, ?passive⟩, fun h c t d s => ⟨rfl, rfl⟩⟩
  case active =>
    rw [exec, execActiveResponse, idActiveResponse, ← validFrame_eq_responseBytes_sum]
    exact congrArg _ (decodeOp_validFrame (id := idActiveResponse) (by decide) d s)
  case passive =>
    rw [exec, execPassiveResponse, idPassiveResponse, ← validFrame_eq_responseBytes_sum]
    exact congrArg _ (decodeOp_validFrame (id := idPassiveResponse) (by decide) d s)

/-! ## Buffers that are rejected -/

theorem decodeOp_eq_tooShort {b : List Byte} (h : b.length ≠ 10) (s : State) :
    decodeOp b s = s.decodeFailed .frameTooShort :=
  decodeOp_of_error (responseError_of_length_ne h) s

/-- Settles O24: a command frame has 19 bytes, and DECODE rejects every length but ten. -/
theorem commandFrameIsNoResponse : Obligations.CommandFrameIsNoResponse := by
  intro cmd mode value s u f _
  have hlen : f.toList.length ≠ 10 := by simp
  exact congrArg _ (decodeOp_eq_tooShort hlen u)

/-- Settles O21: the checks that fail read BLEN, LO and HI only, and the failure writes no byte. -/
theorem rejectedBuffersAreNotRead : Obligations.RejectedBuffersAreNotRead := by
  refine fun s p rest hs => ⟨fun hop hlen => ?decode, fun hop hout => ?checksum⟩
  case decode =>
    rw [step_cons hs, perform, performRequest, decode_of_op_decode hop, exec_decodeInstr,
      decodeOp_eq_tooShort hlen, respond_next]
  case checksum =>
    have hexec := (checksumOperation p.buf p.lo p.hi { s with pending := rest }).2 hout
    rw [step_cons hs, perform, performRequest, decode_of_op_checksum hop, hexec, respond_next]

end Sys2Proof.Proofs
end

section
/-! How an operation ends (60_exceptions.md R160, 10_state.md R25): the STATUS codes of each row, CAUSE
beside them, the response port's codes, and the obligations about them. -/

namespace Sys2Proof.Proofs
open Sys2Proof.Machine

/-! ## The codes of each row -/

/-- The statuses a row's operation can end with, the "raised by" column of R160. -/
def raisedBy (r : OpRow) : List Status :=
  if r = rowEncode then [.ok, .invalidArgument]
  else if r = rowChecksum then [.ok, .badRange]
  else if r = rowDecode then
    [.ok, .frameTooShort, .badHeader, .badChecksum, .unknownResponseId, .badTail]
  else if r = rowClassify then [.ok, .noValidFrame]
  else [.badOp]

theorem raisedBy_reserved {r : OpRow}
    (h : r ∈ [rowReservedZero, rowReservedFive, rowReservedSixSeven, rowReservedHigh]) :
    raisedBy r = [.badOp] := by
  simp only [List.mem_cons, List.not_mem_nil, or_false] at h
  rcases h with rfl | rfl | rfl | rfl <;> rfl

theorem none_not_mem_raisedBy (r : OpRow) : Status.none ∉ raisedBy r := by
  unfold raisedBy; split_ifs <;> simp

theorem encodeOp_status_mem (cmd mode : Byte) (value : List Byte) (s : State) :
    (encodeOp cmd mode value s).status ∈ raisedBy rowEncode := by
  rcases encodeOp_cases cmd mode value s with ⟨_, ht⟩ | ⟨c, _, ht⟩ <;> rw [ht]
  · exact List.mem_cons_self
  · exact List.mem_cons_of_mem _ List.mem_cons_self

theorem checksumOp_status_mem (b : List Byte) (lo hi : Nat) (s : State) :
    (checksumOp b lo hi s).status ∈ raisedBy rowChecksum := by
  rcases checksumOp_cases b lo hi s with ⟨_, ht⟩ | ⟨_, ht⟩ <;> rw [ht]
  · exact List.mem_cons_self
  · exact List.mem_cons_of_mem _ List.mem_cons_self

theorem mem_raisedBy_rowDecode_of_isDecodeError {c : Status} (h : c.isDecodeError = true) :
    c ∈ raisedBy rowDecode := by
  revert h; cases c <;> decide

theorem decodeOp_status_mem (b : List Byte) (s : State) :
    (decodeOp b s).status ∈ raisedBy rowDecode := by
  rcases decodeOp_cases b s with ⟨_, ht⟩ | ⟨c, hc, ht⟩ <;> rw [ht]
  · exact List.mem_cons_self
  · exact mem_raisedBy_rowDecode_of_isDecodeError (responseError_isDecodeError hc)

theorem execClassify_status_mem {e : Byte} {s t : State} (h : execClassify e s = .next t) :
    t.status ∈ raisedBy rowClassify := by
  rcases execClassify_cases e s with
    ⟨_, hc⟩ | ⟨_, _, hc⟩ | ⟨d, _, _, _, hc⟩ | ⟨_, _, hc⟩ | ⟨_, _, _, hc⟩ <;> rw [hc] at h <;> cases h
  case inl => exact List.mem_cons_of_mem _ List.mem_cons_self
  case inr.inl => exact List.mem_cons_self
  case inr.inr.inl => exact List.mem_cons_self

variable {i : Instr} {s t : State}

/-- An operation that completes ends with a status of its row. -/
theorem exec_status_mem (h : exec i s = .next t) : t.status ∈ raisedBy i.row := by
  rcases exec_next_cases h with
    ⟨hrow, _, _, _, rfl⟩ | ⟨hrow, _, _, _, rfl⟩ | ⟨hrow, _, rfl⟩ | ⟨hrow, e, he⟩ | ⟨hrow, rfl⟩
  · exact hrow ▸ encodeOp_status_mem _ _ _ _
  · exact hrow ▸ checksumOp_status_mem _ _ _ _
  · exact hrow ▸ decodeOp_status_mem _ _
  · exact hrow ▸ execClassify_status_mem he
  · rw [raisedBy_reserved hrow]; exact List.mem_cons_self

theorem exec_status_ne_none (h : exec i s = .next t) : t.status ≠ .none :=
  fun hnone => none_not_mem_raisedBy i.row (hnone ▸ exec_status_mem h)

/-! ## CAUSE -/

/-- `finish` writes OK and NONE, whatever the state. -/
theorem causeMatches_finish (s : State) : s.finish.CauseMatches := by simp [State.CauseMatches]

/-- A failure with a status other than INVALID_ARGUMENT names no cause. -/
theorem causeMatches_fail {code : Status} (h : code ≠ .invalidArgument) (s : State) :
    (s.fail code .none).CauseMatches := by simp [State.CauseMatches, h]

theorem isDecodeError_ne_invalidArgument {c : Status} (h : c.isDecodeError = true) :
    c ≠ .invalidArgument := by
  rintro rfl; cases h

theorem execClassify_causeMatches {e : Byte} (h : execClassify e s = .next t) : t.CauseMatches := by
  rcases execClassify_cases e s with
    ⟨_, hc⟩ | ⟨_, _, hc⟩ | ⟨d, _, _, _, hc⟩ | ⟨_, _, hc⟩ | ⟨_, _, _, hc⟩ <;> rw [hc] at h <;> cases h
  case inl => exact causeMatches_fail (by decide) _
  case inr.inl => exact causeMatches_finish _
  case inr.inr.inl => exact causeMatches_finish _

/-- After every operation CAUSE goes with INVALID_ARGUMENT, whatever it was before (R25). -/
theorem exec_causeMatches (h : exec i s = .next t) : t.CauseMatches := by
  rcases exec_next_cases h with
    ⟨_, cmd, mode, value, rfl⟩ | ⟨_, b, lo, hi, rfl⟩ | ⟨_, b, rfl⟩ | ⟨_, e, he⟩ | ⟨_, rfl⟩
  · rcases encodeOp_cases cmd mode value s with ⟨_, ht⟩ | ⟨c, hc, ht⟩ <;> rw [ht]
    · exact causeMatches_finish _
    · simp [State.CauseMatches, encodeError_ne_none hc]
  · rcases checksumOp_cases b lo hi s with ⟨_, ht⟩ | ⟨_, ht⟩ <;> rw [ht]
    · exact causeMatches_finish _
    · exact causeMatches_fail (by decide) _
  · rcases decodeOp_cases b s with ⟨_, ht⟩ | ⟨c, hc, ht⟩ <;> rw [ht]
    · exact causeMatches_finish _
    · exact causeMatches_fail (isDecodeError_ne_invalidArgument (responseError_isDecodeError hc)) _
  · exact execClassify_causeMatches he
  · exact causeMatches_fail (by decide) _

/-! ## Numeric codes -/

theorem status_code_eq_one_iff (st : Status) : st.code = 0x1 ↔ st = .invalidArgument := by
  cases st <;> decide

theorem cause_code_ne_zero_iff (c : Cause) : c.code ≠ 0 ↔ c ≠ .none := by cases c <;> decide

theorem cause_code_ne_three (c : Cause) : c.code ≠ 3 := by cases c <;> decide

/-- Settles O32: the codes of a row's statuses are those of its line in the column; CAUSE is known from
`exec_causeMatches`. -/
theorem operationsRaiseOnlyTheirCodes : Obligations.OperationsRaiseOnlyTheirCodes := by
  intro i s t h
  have hcode : t.status.code ∈ (raisedBy i.row).map Status.code := List.mem_map_of_mem (exec_status_mem h)
  refine ⟨fun hrow => ?_, fun hrow => ?_, fun hrow => ?_, fun hrow => ?_, fun hrow => ?_, ?_,
    cause_code_ne_three t.cause⟩
  · rw [hrow] at hcode; exact hcode
  · rw [hrow] at hcode; exact hcode
  · rw [hrow] at hcode; exact hcode
  · rw [hrow] at hcode; exact hcode
  · rw [raisedBy_reserved hrow] at hcode; exact List.mem_singleton.mp hcode
  · rw [cause_code_ne_zero_iff, status_code_eq_one_iff]; exact exec_causeMatches h

/-- Settles O33: the tables are evaluated, the error classes by each status, and the response port is
wired line by line. -/
theorem responsePortCodes : Obligations.ResponsePortCodes := by
  refine ⟨rfl, rfl, rfl, rfl, fun st => ?classes,
    fun s => ⟨rfl, rfl, rfl, rfl, rfl, rfl, rfl, rfl, rfl, rfl⟩⟩
  case classes => cases st <;> decide

/-! ## Dependence on the request alone -/

/-- What an instruction is, from whatever state it is performed: one of the three codec operations,
CLASSIFY or the reserved one, with the opcode row that goes with it. -/
theorem exec_uniform_cases (i : Instr) :
    (i.row = rowEncode ∧ ∃ cmd mode value, ∀ s, exec i s = .next (encodeOp cmd mode value s)) ∨
    (i.row = rowChecksum ∧ ∃ b lo hi, ∀ s, exec i s = .next (checksumOp b lo hi s)) ∨
    (i.row = rowDecode ∧ ∃ b, ∀ s, exec i s = .next (decodeOp b s)) ∨
    (i.row = rowClassify ∧ ∃ e, ∀ s, exec i s = execClassify e s) ∨
    (i.row ∈ [rowReservedZero, rowReservedFive, rowReservedSixSeven, rowReservedHigh] ∧
      ∀ s, exec i s = .next (reservedOp s)) := by
  cases i
  case checksum => exact .inr (.inl ⟨rfl, _, _, _, fun _ => rfl⟩)
  case decode => exact .inr (.inr (.inl ⟨rfl, _, fun _ => rfl⟩))
  case activeResponse => exact .inr (.inr (.inl ⟨rfl, _, fun _ => rfl⟩))
  case passiveResponse => exact .inr (.inr (.inl ⟨rfl, _, fun _ => rfl⟩))
  case classify => exact .inr (.inr (.inr (.inl ⟨rfl, _, fun _ => rfl⟩)))
  case reservedZero => exact .inr (.inr (.inr (.inr ⟨by simp [Instr.row], fun _ => rfl⟩)))
  case reservedFive => exact .inr (.inr (.inr (.inr ⟨by simp [Instr.row], fun _ => rfl⟩)))
  case reservedSixSeven => exact .inr (.inr (.inr (.inr ⟨by simp [Instr.row], fun _ => rfl⟩)))
  case reservedHigh => exact .inr (.inr (.inr (.inr ⟨by simp [Instr.row], fun _ => rfl⟩)))
  all_goals exact .inl ⟨rfl, _, _, _, fun _ => rfl⟩

/-- The outcome of ENCODE and what it writes come from its operands. -/
theorem encodeOp_agree (cmd mode : Byte) (value : List Byte) (s t : State) :
    (encodeOp cmd mode value s).status = (encodeOp cmd mode value t).status ∧
    (encodeOp cmd mode value s).cause = (encodeOp cmd mode value t).cause ∧
    SameTx (encodeOp cmd mode value s) (encodeOp cmd mode value t) := by
  unfold encodeOp
  cases encodeError cmd value <;> simp [SameTx]

/-- The outcome of CHECKSUM and what it writes come from its operands. -/
theorem checksumOp_agree (b : List Byte) (lo hi : Nat) (s t : State) :
    (checksumOp b lo hi s).status = (checksumOp b lo hi t).status ∧
    (checksumOp b lo hi s).cause = (checksumOp b lo hi t).cause ∧
    SameCsum (checksumOp b lo hi s) (checksumOp b lo hi t) := by
  unfold checksumOp
  cases rangeOk b lo hi <;> simp [SameCsum]

/-- The outcome of DECODE and what it writes come from its operand. -/
theorem decodeOp_agree (b : List Byte) (s t : State) :
    (decodeOp b s).status = (decodeOp b t).status ∧ (decodeOp b s).cause = (decodeOp b t).cause ∧
    SameRx (decodeOp b s) (decodeOp b t) := by
  unfold decodeOp
  cases responseError b <;> simp [SameRx]

theorem not_mem_reserved_of_codec {r : OpRow} (h : r ∈ [rowEncode, rowChecksum, rowDecode]) :
    r ∉ [rowReservedZero, rowReservedFive, rowReservedSixSeven, rowReservedHigh] := by
  revert r; decide

/-- Settles O34: by the operation of the row; the other rows' clauses do not apply to it. -/
theorem codecDependsOnTheRequestAlone : Obligations.CodecDependsOnTheRequestAlone := by
  intro i s t s' t' hne hs ht
  rcases exec_uniform_cases i with ⟨hrow, cmd, mode, value, hop⟩ | ⟨hrow, b, lo, hi, hop⟩ |
    ⟨hrow, b, hop⟩ | ⟨hrow, _⟩ | ⟨hrow, hop⟩
  case inr.inr.inr.inl => exact absurd hrow hne
  all_goals
    rw [hop] at hs ht
    cases hs
    cases ht
  case inl =>
    obtain ⟨hstatus, hcause, htx⟩ := encodeOp_agree cmd mode value s t
    rw [hrow]
    exact ⟨hstatus, hcause, fun _ => htx, fun h => absurd h (by decide), fun h => absurd h (by decide)⟩
  case inr.inl =>
    obtain ⟨hstatus, hcause, hcsum⟩ := checksumOp_agree b lo hi s t
    rw [hrow]
    exact ⟨hstatus, hcause, fun h => absurd h (by decide), fun _ => hcsum, fun h => absurd h (by decide)⟩
  case inr.inr.inl =>
    obtain ⟨hstatus, hcause, hrx⟩ := decodeOp_agree b s t
    rw [hrow]
    exact ⟨hstatus, hcause, fun h => absurd h (by decide), fun h => absurd h (by decide),
      fun _ => ⟨hrx, decodeOp_cls b s, decodeOp_cls b t⟩⟩
  case inr.inr.inr.inr =>
    refine ⟨rfl, rfl, fun h => ?_, fun h => ?_, fun h => ?_⟩
    all_goals exact absurd hrow (not_mem_reserved_of_codec (by simp [h]))

end Sys2Proof.Proofs
end

section
/-! The invariant of the block: every operation and so every step keeps it, and under it every request
completes and every read that is ready gives the register's line; and the obligations about the step. -/

namespace Sys2Proof.Proofs
open Sys2Proof.Machine

variable {s t : State}

/-! ## The invariant of the data registers -/

/-- The part of the invariant that speaks of the data registers and CLASS. STATUS and CAUSE do not enter
it, so `finish` and `fail` keep it. -/
structure DataInv (s : State) : Prop where
  valid : s.ValidBits
  frame : s.FrameBuilt
  cls   : s.ClassMatches

theorem dataInv_of_inv (h : s.Inv) : DataInv s := ⟨h.valid, h.frame, h.cls⟩

theorem dataInv_finish (h : DataInv s) : DataInv s.finish := ⟨h.valid, h.frame, h.cls⟩

theorem dataInv_fail (h : DataInv s) (code : Status) (cause : Cause) : DataInv (s.fail code cause) :=
  ⟨h.valid, h.frame, h.cls⟩

theorem dataInv_holdTx (h : DataInv s) {f : Vector Byte 19} (hf : isCommandFrame f = true) :
    DataInv (s.holdTx f) := by
  obtain ⟨_, hkind, hdata, hcsum⟩ := h.valid
  exact ⟨⟨rfl, hkind, hdata, hcsum⟩, hf, h.cls⟩

theorem dataInv_clearTx (h : DataInv s) : DataInv s.clearTx := by
  obtain ⟨_, hkind, hdata, hcsum⟩ := h.valid
  exact ⟨⟨rfl, hkind, hdata, hcsum⟩, rfl, h.cls⟩

theorem dataInv_holdCsum (h : DataInv s) (v : Byte) : DataInv (s.holdCsum v) := by
  obtain ⟨htx, hkind, hdata, _⟩ := h.valid
  exact ⟨⟨htx, hkind, hdata, rfl⟩, h.frame, h.cls⟩

theorem dataInv_clearCsum (h : DataInv s) : DataInv s.clearCsum := by
  obtain ⟨htx, hkind, hdata, _⟩ := h.valid
  exact ⟨⟨htx, hkind, hdata, rfl⟩, h.frame, h.cls⟩

/-- CLASS = NONE belongs to every held frame, and to none. -/
theorem classMatches_of_none (h : s.cls = .none) : s.ClassMatches := by simp [State.ClassMatches, h]

theorem dataInv_holdRx (h : DataInv s) (k : RxKind) (d : Vector Byte 6) :
    DataInv ((s.setClass .none).holdRx k d) := by
  obtain ⟨htx, _, _, hcsum⟩ := h.valid
  exact ⟨⟨htx, rfl, rfl, hcsum⟩, h.frame, classMatches_of_none rfl⟩

theorem dataInv_clearRx (h : DataInv s) : DataInv (s.setClass .none).clearRx := by
  obtain ⟨htx, _, _, hcsum⟩ := h.valid
  exact ⟨⟨htx, rfl, rfl, hcsum⟩, h.frame, classMatches_of_none rfl⟩

/-! ## Each operation keeps it -/

/-- The frame of a legal command and at most ten value bytes is laid out as R70 to R74 say: slot eleven
is empty, so byte 14 is zero. -/
theorem isCommandFrame_commandFrame {cmd : Byte} {value : List Byte}
    (h : encodeError cmd value = none) (mode : Byte) :
    isCommandFrame (commandFrame cmd mode value) = true := by
  obtain ⟨hcmd, hlen⟩ := encodeError_eq_none.mp h
  have hslot : payloadSlot value 10 = 0x00 := List.getD_eq_default _ _ hlen
  have hf2 : (commandFrame cmd mode value)[2] = cmd := rfl
  have hf14 : (commandFrame cmd mode value)[14] = 0x00 := hslot
  have hf17 : (commandFrame cmd mode value)[17]
      = sum8 (commandFrame cmd mode value).toList commandSumFrom commandSumEnd :=
    sum8_commandBody cmd mode value
  simp only [isCommandFrame, hf2, hf14, hf17, hcmd, decide_true, beq_self_eq_true, Bool.and_true]
  rfl

theorem dataInv_encodeOp (h : DataInv s) (cmd mode : Byte) (value : List Byte) :
    DataInv (encodeOp cmd mode value s) := by
  rcases encodeOp_cases cmd mode value s with ⟨hnone, ht⟩ | ⟨c, _, ht⟩ <;> rw [ht]
  · exact dataInv_finish (dataInv_holdTx h (isCommandFrame_commandFrame hnone mode))
  · exact dataInv_fail (dataInv_clearTx h) _ _

theorem dataInv_checksumOp (h : DataInv s) (b : List Byte) (lo hi : Nat) :
    DataInv (checksumOp b lo hi s) := by
  rcases checksumOp_cases b lo hi s with ⟨_, ht⟩ | ⟨_, ht⟩ <;> rw [ht]
  · exact dataInv_finish (dataInv_holdCsum h _)
  · exact dataInv_fail (dataInv_clearCsum h) _ _

theorem dataInv_decodeOp (h : DataInv s) (b : List Byte) : DataInv (decodeOp b s) := by
  rcases decodeOp_cases b s with ⟨_, ht⟩ | ⟨c, _, ht⟩ <;> rw [ht]
  · exact dataInv_finish (dataInv_holdRx h _ _)
  · exact dataInv_fail (dataInv_clearRx h) _ _

/-- CLASSIFY writes the class that belongs to the frame it finds held, whatever CLASS was before. -/
theorem execClassify_classMatches {e : Byte} (h : execClassify e s = .next t) : t.ClassMatches := by
  rcases execClassify_cases e s with
    ⟨_, hc⟩ | ⟨_, hk, hc⟩ | ⟨d, _, hk, _, hc⟩ | ⟨_, _, hc⟩ | ⟨_, _, _, hc⟩ <;> rw [hc] at h <;> cases h
  case inl => exact classMatches_of_none rfl
  case inr.inl => simp [State.ClassMatches, hk]
  case inr.inr.inl =>
    by_cases hecho : d[0] = e
    · simp [State.ClassMatches, hk, echoClass_of_eq hecho]
    · simp [State.ClassMatches, hk, echoClass_of_ne hecho]

theorem dataInv_execClassify (h : DataInv s) {e : Byte} (ht : execClassify e s = .next t) :
    DataInv t := by
  have hcls := execClassify_classMatches ht
  obtain ⟨⟨htxv, htx⟩, ⟨hrxv, hk, hd⟩, ⟨hcsv, hcs⟩, _⟩ := execClassify_frame ht
  have hvalid : t.ValidBits := by
    simpa only [State.ValidBits, htxv, htx, hrxv, hk, hd, hcsv, hcs] using h.valid
  have hframe : t.FrameBuilt := by simpa only [State.FrameBuilt, htx] using h.frame
  exact ⟨hvalid, hframe, hcls⟩

theorem dataInv_exec {i : Instr} (h : DataInv s) (ht : exec i s = .next t) : DataInv t := by
  rcases exec_next_cases ht with
    ⟨_, cmd, mode, value, rfl⟩ | ⟨_, b, lo, hi, rfl⟩ | ⟨_, b, rfl⟩ | ⟨_, e, he⟩ | ⟨_, rfl⟩
  · exact dataInv_encodeOp h cmd mode value
  · exact dataInv_checksumOp h b lo hi
  · exact dataInv_decodeOp h b
  · exact dataInv_execClassify h he
  · exact dataInv_fail h _ _

/-! ## The invariant -/

/-- An operation ends with a STATUS and a CAUSE of its own, so of the state before it only the data
registers matter. -/
theorem inv_exec {i : Instr} (h : DataInv s) (ht : exec i s = .next t) : t.Inv := by
  obtain ⟨hvalid, hframe, hcls⟩ := dataInv_exec h ht
  exact ⟨hvalid, hframe, exec_causeMatches ht, hcls, fun hnone => absurd hnone (exec_status_ne_none ht)⟩

theorem inv_setPending (h : s.Inv) (evs : List HostEvent) : State.Inv { s with pending := evs } :=
  ⟨h.valid, h.frame, h.cause, h.cls, h.nothing⟩

theorem inv_respond (h : s.Inv) : s.respond.Inv := ⟨h.valid, h.frame, h.cause, h.cls, h.nothing⟩

theorem inv_resetEvent (s : State) : s.resetEvent.Inv where
  valid := ⟨rfl, rfl, rfl, rfl⟩
  frame := rfl
  cause := by simp [State.CauseMatches]
  cls := classMatches_of_none rfl
  nothing _ := ⟨rfl, rfl, rfl, rfl⟩

/-- Settles O2: the reset state is what the reset event makes of it. -/
theorem resetStateMeetsInvariant : Obligations.ResetStateMeetsInvariant := inv_resetEvent State.reset

/-- Settles O3: a request by its operation, RST by its table, a read because it writes nothing. -/
theorem stepKeepsInvariant : Obligations.StepKeepsInvariant := by
  intro s t hinv h
  rcases step_next_cases h with ⟨p, rest, u, _, hexec, rfl⟩ | ⟨q, rest, _, rfl⟩ | ⟨r, rest, _, rfl⟩
  · exact inv_respond (inv_exec (dataInv_of_inv (inv_setPending hinv rest)) hexec)
  · exact inv_resetEvent _
  · exact inv_setPending hinv rest

/-! ## What a step can change -/

/-- Settles O4: no operation ends with NONE, and a read leaves STATUS as it was. -/
theorem onlyResetGivesStatusNone : Obligations.OnlyResetGivesStatusNone := by
  intro s t h hne hnone
  rcases step_next_cases h with ⟨p, rest, u, _, hexec, rfl⟩ | ⟨q, rest, hs, _⟩ | ⟨r, rest, _, rfl⟩
  · have hu : u.status ≠ .none := exec_status_ne_none hexec
    exact absurd hnone hu
  · exact ⟨q, rest, hs⟩
  · exact absurd hnone hne

/-- Settles O35: a request whose OP is not DECODE's and a read keep the held frame. -/
theorem heldFrameChangesOnlyByDecodeOrReset : Obligations.HeldFrameChangesOnlyByDecodeOrReset := by
  intro s t h hne
  rcases step_next_cases h with ⟨p, rest, _, hs, _, _⟩ | ⟨q, rest, hs, _⟩ | ⟨r, rest, _, rfl⟩
  · by_cases hop : p.op = 0x3
    · exact .inr ⟨p, rest, hs, hop⟩
    · exact absurd (step_sameRx_of_op_ne hs h hop) hne
  · exact .inl ⟨q, rest, hs⟩
  · exact absurd ⟨rfl, rfl, rfl⟩ hne

/-- Settles O29: each output tells the kind of the frame held, which CLASSIFY does not change. -/
theorem activeAndPassiveExcludeEachOther : Obligations.ActiveAndPassiveExcludeEachOther := by
  refine ⟨fun e e' s t t' ht ht' hboth => ?_, fun s hboth => ?_⟩
  · simp only [response_isActive_iff, response_isPassiveReply_iff] at hboth
    obtain ⟨hactive, _, _⟩ := execClassify_classMatches ht
    obtain ⟨_, hpassive, _⟩ := execClassify_classMatches ht'
    obtain ⟨_, ⟨_, hkind, _⟩, _⟩ := execClassify_frame ht
    obtain ⟨_, ⟨_, hkind', _⟩, _⟩ := execClassify_frame ht'
    have hkinds : some RxKind.active = some .passive := calc
      some RxKind.active = t.rxKind := (hactive hboth.1).symm
      _ = t'.rxKind := hkind.symm.trans hkind'
      _ = some .passive := hpassive hboth.2
    cases hkinds
  · simp only [response_isActive_iff, response_isPassiveReply_iff] at hboth
    obtain ⟨hactive, hpassive⟩ := hboth
    cases hactive.symm.trans hpassive

/-! ## Completion -/

/-- Settles O5: `respond` adds the response to a next state and passes a stop on. -/
theorem stepRunsDecodedRequest : Obligations.StepRunsDecodedRequest := by
  intro s p rest hs
  rw [step_cons hs, perform, performRequest]
  cases exec (decode p) { s with pending := rest } <;> rfl

/-- Under the invariant CLASSIFY never reads a register without value, so no instruction stops. -/
theorem exec_completes (h : s.Inv) (i : Instr) : ∃ t, exec i s = .next t := by
  by_contra hstop
  obtain ⟨hrx, hnone⟩ := exec_stop_cases (not_exists.mp hstop)
  obtain ⟨_, hkind, hdata, _⟩ := h.valid
  rcases hnone with hk | ⟨_, hd⟩
  · simp [hrx, hk] at hkind
  · simp [hrx, hd] at hdata

/-- Settles O40: the operation completes, leaves the ports as they were, and its response is added. -/
theorem everyRequestCompletesWithAResponse : Obligations.EveryRequestCompletesWithAResponse := by
  intro s p rest hinv hs
  obtain ⟨u, hexec⟩ := exec_completes (inv_setPending hinv rest) (decode p)
  obtain ⟨_, _, _, _, hpending, hresponses⟩ := operationsKeepTheirFootprint _ _ _ hexec
  have hstatus : u.status ≠ .none := exec_status_ne_none hexec
  refine ⟨u.respond, ?_, hpending.symm, ?_, hstatus⟩
  · rw [step_cons hs, perform, performRequest, hexec, respond_next]
  · exact congrArg (· ++ [u.response]) hresponses.symm

theorem exec_ne_refused (i : Instr) (s : State) (f : Refusal) : exec i s ≠ .refused f := by
  rcases exec_uniform_cases i with ⟨_, _, _, _, hop⟩ | ⟨_, _, _, _, hop⟩ | ⟨_, _, hop⟩ |
    ⟨_, e, hop⟩ | ⟨_, hop⟩ <;> rw [hop]
  case inr.inr.inr.inl =>
    rcases execClassify_cases e s with
      ⟨_, hc⟩ | ⟨_, _, hc⟩ | ⟨d, _, _, _, hc⟩ | ⟨_, _, hc⟩ | ⟨_, _, _, hc⟩ <;> rw [hc] <;> nofun
  all_goals nofun

theorem readData_ne_refused {α : Type} (r : ResultReg) (valid : Bool) (v : Option α) (as : α → RegValue)
    (f : Refusal) : readData r valid v as ≠ .refused f := by
  cases valid <;> cases v <;> nofun

theorem readReg_ne_refused (r : ResultReg) (s : State) (f : Refusal) : readReg r s ≠ .refused f := by
  cases r
  case txbuf => exact readData_ne_refused _ _ _ _ f
  case rxKind => exact readData_ne_refused _ _ _ _ f
  case rxData => exact readData_ne_refused _ _ _ _ f
  case csumOut => exact readData_ne_refused _ _ _ _ f
  all_goals nofun

theorem perform_ne_refused (e : HostEvent) (s : State) (f : Refusal) : perform e s ≠ .refused f := by
  cases e with
  | request p =>
    have hexec := exec_ne_refused (decode p) s
    rw [perform, performRequest]
    cases hr : exec (decode p) s
    case refused g => exact absurd hr (hexec g)
    all_goals nofun
  | rst q => nofun
  | read r =>
    have hread := readReg_ne_refused r s
    rw [perform, readEvent]
    cases hr : readReg r s
    case refused g => exact absurd hr (hread g)
    all_goals nofun

/-- Settles O6: no event is refused, so a refusal says that none is presented. -/
theorem stepIsRefusedOnlyWithNothingPresented : Obligations.StepIsRefusedOnlyWithNothingPresented := by
  refine fun s => ⟨step_nil, fun f hf => ?_⟩
  cases hp : s.pending with
  | nil => rfl
  | cons e rest => exact absurd ((step_cons hp).symm.trans hf) (perform_ne_refused e _ f)

/-! ## The host's reads -/

/-- Settles O38: each register is read from its own field; a data register through `readData`. -/
theorem readGivesTheRegisterContent : Obligations.ReadGivesTheRegisterContent := by
  refine fun s => ⟨rfl, rfl, rfl, rfl, rfl, rfl, fun f hv hf => ?_, fun k hv hk => ?_,
    fun d hv hd => ?_, fun v hv hc => ?_⟩
  · rw [readReg, hv, hf, readData_some]
  · rw [readReg, hv, hk, readData_some]
  · rw [readReg, hv, hd, readData_some]
  · rw [readReg, hv, hc, readData_some]

/-- By the valid bits, a register that is ready to be read holds a value, and it is the one on the
register's line of the response port. -/
theorem readReg_of_ready (hinv : s.Inv) {r : ResultReg} (hready : EventReady s (.read r)) :
    ∃ v, readReg r s = .next v ∧ s.response.line r = some v := by
  obtain ⟨htx, hkind, hdata, hcsum⟩ := hinv.valid
  obtain ⟨_, _, _, _, _, _, readTx, readKind, readRxData, readCsum⟩ := readGivesTheRegisterContent s
  cases r
  case txbuf =>
    obtain ⟨f, hf⟩ := Option.isSome_iff_exists.mp (htx.symm.trans hready)
    exact ⟨_, readTx f hready hf, congrArg (Option.map RegValue.txbuf) hf⟩
  case rxKind =>
    obtain ⟨k, hk⟩ := Option.isSome_iff_exists.mp (hkind.symm.trans hready)
    exact ⟨_, readKind k hready hk, congrArg (Option.map RegValue.rxKind ∘ Option.map RxKind.code) hk⟩
  case rxData =>
    obtain ⟨d, hd⟩ := Option.isSome_iff_exists.mp (hdata.symm.trans hready)
    exact ⟨_, readRxData d hready hd, congrArg (Option.map RegValue.rxData) hd⟩
  case csumOut =>
    obtain ⟨v, hv⟩ := Option.isSome_iff_exists.mp (hcsum.symm.trans hready)
    exact ⟨_, readCsum v hready hv, congrArg (Option.map RegValue.csumOut) hv⟩
  all_goals exact ⟨_, rfl, rfl⟩

/-- A read does not depend on the events to come. -/
theorem readReg_setPending (r : ResultReg) (s : State) (evs : List HostEvent) :
    readReg r { s with pending := evs } = readReg r s := by cases r <;> rfl

/-- Settles O39: the step on a read is `readEvent`, which passes on what `readReg` answers. -/
theorem readsHaveNoSideEffect : Obligations.ReadsHaveNoSideEffect := by
  refine ⟨fun s r rest hinv hs hready => ?value, fun s r rest f hs hfault => ?fault⟩
  case value =>
    obtain ⟨v, hread, hline⟩ := readReg_of_ready hinv hready
    have hread' : readReg r { s with pending := rest } = .next v :=
      (readReg_setPending r s rest).trans hread
    refine ⟨{ s with pending := rest }, v, ?_, ⟨rfl, rfl, rfl, rfl, rfl, rfl, rfl, rfl, rfl, rfl⟩,
      rfl, rfl, hread, hread', hline⟩
    rw [step_cons hs, perform, readEvent, hread']
  case fault => rw [step_cons hs, perform, readEvent, readReg_setPending, hfault]

end Sys2Proof.Proofs
end

section
/-! Whole runs: each request is answered once and in order (10_state.md R35), and the responses already
produced are never read (R32). -/

namespace Sys2Proof.Proofs
open Sys2Proof.Machine

/-! ## Answers -/

theorem requestCount_cons (e : HostEvent) (rest : List HostEvent) :
    requestCount (e :: rest) = requestCount [e] + requestCount rest := by
  cases e <;> simp [requestCount, Nat.add_comm]

/-- One step of a run of requests and resets: it completes, keeps the invariant and the responses, and
adds one response for a request and none for a reset. -/
theorem step_answers {s : State} {e : HostEvent} {rest : List HostEvent} (hinv : s.Inv)
    (hs : s.pending = e :: rest) (he : (∃ q, e = .rst q) ∨ (∃ p, e = .request p)) :
    ∃ t, step s = .next t ∧ t.Inv ∧ t.pending = rest ∧ s.responses <+: t.responses ∧
      t.responses.length = s.responses.length + requestCount [e] := by
  rcases he with ⟨q, rfl⟩ | ⟨p, rfl⟩
  · exact ⟨_, step_of_rst hs, inv_resetEvent _, rfl, ⟨[], List.append_nil _⟩, rfl⟩
  · obtain ⟨t, hstep, hpending, hresponses, _⟩ := everyRequestCompletesWithAResponse s p rest hinv hs
    refine ⟨t, hstep, stepKeepsInvariant s t hinv hstep, hpending,
      ⟨[t.response], hresponses.symm⟩, ?_⟩
    rw [hresponses, List.length_append]
    rfl

/-- Settles O41, by induction on the events: the first is one step that answers, the others a run from
the state after it. -/
theorem runAnswersEachRequestOnce : Obligations.RunAnswersEachRequestOnce := by
  intro evs
  induction evs with
  | nil =>
    intro s hinv hs _
    refine ⟨s, rfl, hinv, hs, ⟨[], List.append_nil _⟩, rfl, fun k hk => ?_⟩
    obtain rfl : k = 0 := Nat.le_zero.mp hk
    exact ⟨s, rfl, ⟨[], List.append_nil _⟩, rfl⟩
  | cons e rest ih =>
    intro s hinv hs hevs
    obtain ⟨he, hrest⟩ := List.forall_mem_cons.mp hevs
    obtain ⟨s', hstep, hinv', hs', hkept, hadded⟩ := step_answers hinv hs he
    obtain ⟨t, hrun, htinv, htpending, htkept, htadded, hprior⟩ := ih s' hinv' hs' hrest
    refine ⟨t, (run_succ_of_next _ hstep).trans hrun, htinv, htpending, hkept.trans htkept, ?_, ?_⟩
    · rw [htadded, hadded, requestCount_cons e rest, Nat.add_assoc]
    · intro k hk
      cases k with
      | zero => exact ⟨s, rfl, hkept.trans htkept, rfl⟩
      | succ k =>
        obtain ⟨u, hurun, hukept, huadded⟩ := hprior k (Nat.le_of_succ_le_succ hk)
        refine ⟨u, (run_succ_of_next k hstep).trans hurun, hukept, ?_⟩
        rw [huadded, hadded, List.take_succ_cons, requestCount_cons e (rest.take k), Nat.add_assoc]

/-! ## Forgetting the responses -/

/-- The state without the responses it has produced. -/
def forget (s : State) : State := { s with responses := [] }

@[simp] theorem forget_rxvalid (s : State) : (forget s).rxvalid = s.rxvalid := rfl
@[simp] theorem forget_rxKind (s : State) : (forget s).rxKind = s.rxKind := rfl
@[simp] theorem forget_rxData (s : State) : (forget s).rxData = s.rxData := rfl

/-- An outcome with the responses of its next state forgotten. -/
def forgetOutcome : Result → Result
  | .next s => .next (forget s)
  | .fault f => .fault f
  | .refused f => .refused f

/-- States are equal but for their responses exactly where registers and events to come agree. -/
theorem forget_eq_iff {s t : State} : forget s = forget t ↔ SameRegs s t ∧ s.pending = t.pending := by
  cases s; cases t; simp [forget, SameRegs, and_assoc]

/-- Two outcomes that agree but for responses are two next states or one stop. -/
theorem forgetOutcome_eq_cases {a b : Result} (h : forgetOutcome a = forgetOutcome b) :
    (∃ s t, a = .next s ∧ b = .next t ∧ forget s = forget t) ∨
    (∃ f, a = .fault f ∧ b = .fault f) ∨ (∃ f, a = .refused f ∧ b = .refused f) := by
  cases a with
  | next s =>
    cases b with
    | next t => exact .inl ⟨s, t, rfl, rfl, Host.Outcome.next.inj h⟩
    | fault g => cases h
    | refused g => cases h
  | fault f =>
    cases b with
    | next t => cases h
    | fault g => cases h; exact .inr (.inl ⟨f, rfl, rfl⟩)
    | refused g => cases h
  | refused f =>
    cases b with
    | next t => cases h
    | fault g => cases h
    | refused g => cases h; exact .inr (.inr ⟨f, rfl, rfl⟩)

theorem encodeOp_forget (cmd mode : Byte) (value : List Byte) (s : State) :
    encodeOp cmd mode value (forget s) = forget (encodeOp cmd mode value s) := by
  unfold encodeOp; cases encodeError cmd value <;> rfl

theorem checksumOp_forget (b : List Byte) (lo hi : Nat) (s : State) :
    checksumOp b lo hi (forget s) = forget (checksumOp b lo hi s) := by
  unfold checksumOp; cases rangeOk b lo hi <;> rfl

theorem decodeOp_forget (b : List Byte) (s : State) :
    decodeOp b (forget s) = forget (decodeOp b s) := by
  unfold decodeOp; cases responseError b <;> rfl

theorem execClassify_forget (e : Byte) (s : State) :
    execClassify e (forget s) = forgetOutcome (execClassify e s) := by
  rcases execClassify_cases e s with
    ⟨hv, hc⟩ | ⟨hv, hk, hc⟩ | ⟨d, hv, hk, hd, hc⟩ | ⟨hv, hk, hc⟩ | ⟨hv, hk, hd, hc⟩ <;> rw [hc]
  · simp only [execClassify, forget_rxvalid, hv]; rfl
  · simp only [execClassify, forget_rxvalid, forget_rxKind, hv, hk]; rfl
  · simp only [execClassify, forget_rxvalid, forget_rxKind, forget_rxData, hv, hk, hd]; rfl
  · simp only [execClassify, forget_rxvalid, forget_rxKind, hv, hk]; rfl
  · simp only [execClassify, forget_rxvalid, forget_rxKind, forget_rxData, hv, hk, hd]; rfl

/-- No operation reads or writes the responses. -/
theorem exec_forget (i : Instr) (s : State) : exec i (forget s) = forgetOutcome (exec i s) := by
  rcases exec_uniform_cases i with ⟨_, cmd, mode, value, hop⟩ | ⟨_, b, lo, hi, hop⟩ | ⟨_, b, hop⟩ |
    ⟨_, e, hop⟩ | ⟨_, hop⟩ <;> rw [hop, hop]
  · rw [encodeOp_forget]; rfl
  · rw [checksumOp_forget]; rfl
  · rw [decodeOp_forget]; rfl
  · exact execClassify_forget e s
  · rfl

/-- The response an operation draws is the one thing `respond` adds. -/
theorem forgetOutcome_respond (r : Result) : forgetOutcome (respond r) = forgetOutcome r := by
  cases r <;> rfl

theorem readReg_forget (r : ResultReg) (s : State) : readReg r (forget s) = readReg r s := by
  cases r <;> rfl

/-- What an event leaves, but for the responses, comes from the state without its responses. -/
theorem forgetOutcome_perform (e : HostEvent) (s : State) :
    forgetOutcome (perform e s) = forgetOutcome (perform e (forget s)) := by
  cases e with
  | request p =>
    calc forgetOutcome (performRequest p s)
        = exec (decode p) (forget s) := by rw [performRequest, forgetOutcome_respond, exec_forget]
      _ = forgetOutcome (exec (decode p) (forget s)) := exec_forget (decode p) (forget s)
      _ = forgetOutcome (performRequest p (forget s)) := by rw [performRequest, forgetOutcome_respond]
  | rst q => rfl
  | read r =>
    rw [perform, perform, readEvent, readEvent, readReg_forget]
    cases readReg r s <;> rfl

theorem forgetOutcome_step_congr {s t : State} (h : forget s = forget t) :
    forgetOutcome (step s) = forgetOutcome (step t) := by
  obtain ⟨_, hpending⟩ := forget_eq_iff.mp h
  cases hp : s.pending with
  | nil => rw [step_nil hp, step_nil (hpending ▸ hp)]
  | cons e rest =>
    have hrest : forget { s with pending := rest } = forget { t with pending := rest } :=
      congrArg (fun u : State => { u with pending := rest }) h
    rw [step_cons hp, step_cons (hpending ▸ hp), forgetOutcome_perform, hrest, ← forgetOutcome_perform]

/-- By induction on the steps: states that agree but for responses stay so, or stop alike. -/
theorem forgetOutcome_run_congr (k : Nat) {s t : State} (h : forget s = forget t) :
    forgetOutcome (Host.Core.run Sys2Proof.core k s) = forgetOutcome (Host.Core.run Sys2Proof.core k t) := by
  induction k generalizing s t with
  | zero => exact congrArg Host.Outcome.next h
  | succ k ih =>
    rcases forgetOutcome_eq_cases (forgetOutcome_step_congr h) with
      ⟨s', t', hs, ht, h'⟩ | ⟨f, hs, ht⟩ | ⟨f, hs, ht⟩
    · rw [run_succ_of_next k hs, run_succ_of_next k ht]; exact ih h'
    · rw [run_succ_of_fault k hs, run_succ_of_fault k ht]
    · rw [run_succ_of_refused k hs, run_succ_of_refused k ht]

/-- Settles O42: the two runs agree but for responses, whatever the number of steps. -/
theorem historyNeverMatters : Obligations.HistoryNeverMatters := by
  intro k s t hregs hpending
  have hforget : forget s = forget t := forget_eq_iff.mpr ⟨hregs, hpending⟩
  rcases forgetOutcome_eq_cases (forgetOutcome_run_congr k hforget) with ⟨s', t', hs, ht, h'⟩ | hstop
  · exact .inl ⟨s', t', hs, ht, forget_eq_iff.mp h'⟩
  · exact .inr hstop

end Sys2Proof.Proofs
end
